-- ==== Sys2Proof/Word.lean ====
section
/-! DEFINITION. The widths of the block's data and their plainest arithmetic (00_scope R14). -/

namespace Sys2Proof

/-- An unsigned 8-bit value, 0 to 255 (R14). -/
abbrev Byte := BitVec 8
/-- A 16-bit operand (R67). -/
abbrev Half := BitVec 16
/-- A 32-bit operand (R67). -/
abbrev Word := BitVec 32
/-- The width of the write and read cursors, 7 bits (R28, R29, decision D9). -/
abbrev Cursor := BitVec 7

/-- The name of a port: its place among the N_PORTS ports (R20). -/
abbrev PortId := Nat
/-- The name of a transmit channel (R13, R36). -/
abbrev ChanId := Nat

end Sys2Proof
end

