-- ==== Sys2Proof/Config.lean ====
section
/-! DEFINITION. What is fixed for one device: the parse states' names, the constants of R8 and R9, the open
parameters of R10 as one record of plain data, the collaborator's data (44 R267), and the free values. -/

namespace Sys2Proof

/-- The eight parse states, in the source's order (R22). A state is named for the item most recently received. -/
inductive ParseState where
  | idle | frameStart | headerM | headerArrow | headerDeviceId | headerSize | headerCmd | commandReceived
  deriving DecidableEq, Repr, Inhabited

/-- The 3-bit register encoding of the parse state (R22, decision D7). Nothing else depends on it. -/
def ParseState.code : ParseState → BitVec 3
  | .idle => 0
  | .frameStart => 1
  | .headerM => 2
  | .headerArrow => 3
  | .headerDeviceId => 4
  | .headerSize => 5
  | .headerCmd => 6
  | .commandReceived => 7

namespace Config

/-- BUF_CAP: capacity of the payload buffer and the largest legal declared length (R8). -/
def bufCap : Nat := 64
/-- SYNC0, the character `$` (R8, R9). -/
def sync0 : Byte := 0x24
/-- SYNC1, the character `M` (R8, R9). -/
def sync1 : Byte := 0x4D
/-- DIR_ACTION, the character `<` (R8, R9). -/
def dirAction : Byte := 0x3C
/-- DIR_QUERY, the character `>` (R8, R9). -/
def dirQuery : Byte := 0x3E
/-- WILDCARD, the reserved target id (R8). -/
def wildcard : Byte := 0
/-- LOCAL_ID_RESET (R8, R52). -/
def localIdReset : Byte := 1
/-- MAX_LAPS_LIMIT, used only by the dispatcher (R8, R264). -/
def maxLapsLimit : Nat := 50

end Config

/-! ### The routing policy (R202 to R205) as plain data -/

/-- Which of dispatch and relay comes first when a verdict asks for both (R203). -/
inductive Order where
  | dispatchFirst | relayFirst
  deriving DecidableEq, Repr, Inhabited

/-- The verdict of ROUTE (R203). -/
structure Verdict where
  dispatch : Bool
  relay : Bool
  order : Order
  deriving DecidableEq, Repr, Inhabited

/-- What the routing policy sees of a frame (R203, decision D23). -/
structure RouteKey where
  matchLocal : Bool
  matchWildcard : Bool
  dir : Byte
  cmd : Byte
  deriving DecidableEq, Repr, Inhabited

/-- ROUTE_POLICY as data: a verdict for each outcome of the two comparators, and a list of exceptions, the first
that fits winning. Every function of a `RouteKey` is one of these (`Laws.Policy.ofFun_apply`). DESIGN CHOICE, log 10:
a field of State holds no function. -/
structure Policy where
  neither : Verdict
  localOnly : Verdict
  wildcardOnly : Verdict
  both : Verdict
  exceptions : List (RouteKey × Verdict)
  deriving DecidableEq, Repr, Inhabited

/-- The policy without its exceptions. -/
def Policy.byMatch (π : Policy) (matchLocal matchWildcard : Bool) : Verdict :=
  match matchLocal, matchWildcard with
  | false, false => π.neither
  | true, false => π.localOnly
  | false, true => π.wildcardOnly
  | true, true => π.both

/-- The verdict of the policy on what it sees (R203). -/
def Policy.apply (π : Policy) (k : RouteKey) : Verdict :=
  match π.exceptions.lookup k with
  | some v => v
  | none => π.byMatch k.matchLocal k.matchWildcard

/-- What the source fixes of a verdict: a matching frame is dispatched (R204 a), a frame that matches neither
comparator is relayed (R204 b). -/
def RouteKey.permits (k : RouteKey) (v : Verdict) : Bool :=
  if k.matchLocal || k.matchWildcard then v.dispatch else v.relay

/-- A policy that satisfies R204 (a) and (b). -/
abbrev Policy.Admissible (π : Policy) : Prop :=
  π.neither.relay = true ∧ π.localOnly.dispatch = true ∧ π.wildcardOnly.dispatch = true ∧
    π.both.dispatch = true ∧ ∀ e ∈ π.exceptions, e.1.permits e.2 = true

/-- POLICY_REF, the spec's own reference policy, for tests and examples only (R205). -/
def Policy.ref : Policy where
  neither := ⟨false, true, .dispatchFirst⟩
  localOnly := ⟨true, false, .dispatchFirst⟩
  wildcardOnly := ⟨true, true, .dispatchFirst⟩
  both := ⟨true, true, .dispatchFirst⟩
  exceptions := []

/-! ### The command codes (R231) -/

/-- The 26 code parameters CMD_* (R231): twelve queries, then fourteen actions. No value is in the source. -/
structure Codes where
  version : Byte
  deviceId : Byte
  status : Byte
  channel : Byte
  rssi : Byte
  rssiThreshold : Byte
  rssiFilter : Byte
  lapMax : Byte
  lapMinTime : Byte
  lastLap : Byte
  selectedLap : Byte
  debug : Byte
  reset : Byte
  calibrate : Byte
  start : Byte
  activate : Byte
  deactivate : Byte
  setDeviceId : Byte
  selectLap : Byte
  setChannel : Byte
  setRssiThreshold : Byte
  setRssiFilter : Byte
  setLapMinTime : Byte
  setLapMax : Byte
  setDebug : Byte
  persist : Byte
  deriving DecidableEq, Repr, Inhabited

/-- The query codes, in the order of R231. -/
def Codes.queries (k : Codes) : List Byte :=
  [k.version, k.deviceId, k.status, k.channel, k.rssi, k.rssiThreshold, k.rssiFilter, k.lapMax, k.lapMinTime,
    k.lastLap, k.selectedLap, k.debug]

/-- The action codes, in the order of R231. -/
def Codes.actions (k : Codes) : List Byte :=
  [k.reset, k.calibrate, k.start, k.activate, k.deactivate, k.setDeviceId, k.selectLap, k.setChannel,
    k.setRssiThreshold, k.setRssiFilter, k.setLapMinTime, k.setLapMax, k.setDebug, k.persist]

/-! ### The configuration record (R10) -/

/-- SET_ID_ZERO: what the dispatcher's "set device id" does with the payload 0 (R258, decision D26). -/
inductive SetIdZero where
  | apply | ignore
  deriving DecidableEq, Repr, Inhabited

/-- LAST_LAP_EMPTY: the answer to the most-recent-lap query when no lap is complete (R250, decision D32). -/
inductive LastLapEmpty where
  | errorReply | zeroedRecord
  deriving DecidableEq, Repr, Inhabited

/-- What the host answers to an action whose frame is shorter than its operands: "no effect and an error reply, or
no reply" (decision D40, R240). -/
inductive ShortAction where
  | errorReply | noReply
  deriving DecidableEq, Repr, Inhabited

/-- Whether a selection `s` reads array entry `s` or `s - 1`, which R251 leaves open. -/
inductive SelectedEntry where
  | atSelection | beforeSelection
  deriving DecidableEq, Repr, Inhabited

/-- The open parameters, "which a model takes as arguments (a configuration record)" (R10). N_PORTS is the length of
the port list; RELAY_DEST is the channel operand of the relay operations. -/
structure Params where
  dirError : Byte
  codes : Codes
  protocolVersion : Byte
  apiMajor : Byte
  apiMinor : Byte
  policy : Policy
  setIdZero : SetIdZero
  lastLapEmpty : LastLapEmpty
  shortAction : ShortAction
  selectedEntry : SelectedEntry
  deriving DecidableEq, Repr, Inhabited

/-- The constraints the source puts on the open parameters: the error marker differs from both accepted markers
(R10), the codes are pairwise distinct (R231), the policy satisfies R204 (a) and (b). -/
abbrev Params.Admissible (c : Params) : Prop :=
  c.dirError ≠ Config.dirQuery ∧ c.dirError ≠ Config.dirAction ∧
    (c.codes.queries ++ c.codes.actions).Nodup ∧ c.policy.Admissible

/-! ### The collaborator's data (R267) -/

/-- One lap record: elapsed time, raw and filtered RSSI (R250). -/
structure Lap where
  time : Word
  raw : Half
  filtered : Half
  deriving DecidableEq, Repr, Inhabited

/-- What the collaborator measures by itself: the states, the laps and the RSSI bundle (R267). The lap count is the
number of records (DEDUCED, log 21). The device state stands here, since the lap timer may change it by itself; it has
a setter besides (`State.setDeviceState`), which no command of the spec calls (DESIGN CHOICE, log 33). -/
structure Measured where
  deviceState : Byte
  timerState : Byte
  laps : List Lap
  rssiRaw : Half
  rssiMin : Half
  rssiMax : Half
  rssiFiltered : Half
  deriving DecidableEq, Repr, Inhabited

/-- What the "set" actions write (R260 to R265). The minimum lap time is held in milliseconds, in 32 bits
(DESIGN CHOICE, log 23: R263 asks for at least 26). -/
structure Settings where
  channel : Half
  threshold : Half
  filterQ : Half
  filterR : Half
  minLapMs : Word
  lapMax : Byte
  debug : Byte
  deriving DecidableEq, Repr, Inhabited

/-- The LapTimerSubsystem as its getters show it (R267). -/
structure Collab where
  measured : Measured
  settings : Settings
  deriving DecidableEq, Repr, Inhabited

/-! ### The device and the free values -/

/-- The illustrative codes of 95_test_vectors.md, with distinct values for the codes it does not use. For tests: no
statement rests on them. -/
def Codes.illustrative : Codes where
  version := 0x01
  deviceId := 0x02
  status := 0x03
  channel := 0x04
  rssi := 0x05
  rssiThreshold := 0x06
  rssiFilter := 0x07
  lapMax := 0x08
  lapMinTime := 0x09
  lastLap := 0x0A
  selectedLap := 0x0B
  debug := 0x0C
  reset := 0x10
  calibrate := 0x11
  start := 0x12
  activate := 0x13
  deactivate := 0x14
  setDeviceId := 0x20
  selectLap := 0x23
  setChannel := 0x22
  setRssiThreshold := 0x24
  setRssiFilter := 0x25
  setLapMinTime := 0x26
  setLapMax := 0x27
  setDebug := 0x28
  persist := 0x29

/-- The illustrative parameters of 95_test_vectors.md. For tests: no statement rests on them. -/
def Params.illustrative : Params where
  dirError := 0x21
  codes := Codes.illustrative
  protocolVersion := 1
  apiMajor := 2
  apiMinor := 3
  policy := Policy.ref
  setIdZero := .ignore
  lastLapEmpty := .zeroedRecord
  shortAction := .errorReply
  selectedEntry := .atSelection

/-- An admissible configuration record. The default only shows that one exists. -/
structure Device where
  params : Params := Params.illustrative
  admissible : params.Admissible := by decide
  deriving Inhabited

namespace Config

/-- The open parameters of the device at hand: nothing is known of them but that they are admissible (log 9). -/
opaque device : Device
/-- N_PORTS is one more than this number, of which nothing is known (R10, decision D31; log 11). -/
opaque extraPorts : Nat
/-- Free values: byte `n` of the bytes the spec states no value for (log 22). -/
opaque freeByte : Nat → Byte
/-- Free values: what the collaborator's getters show after trigger number `n` (log 19). -/
opaque freeCollab : Nat → Collab

end Config

end Sys2Proof
end

