-- ==== Sys2Proof/Syntax.lean ====
section
/-! DEFINITION. The operations of the block and of its host: one constructor per row of spec/opcode_table.json. -/

namespace Sys2Proof

/-- One operation. A byte-step row carries its port and, where its class holds more than one byte value, the byte; a
control row the operands its rule lists; a command row the port that holds the frame and the reply's channel. -/
inductive Instr where
  -- byte steps of the receive framer (40_rx_framer.md)
  /-- IDLE_SYNC, R121. -/
  | idleSync (p : PortId)
  /-- IDLE_REJECT, R122. -/
  | idleReject (p : PortId) (b : Byte)
  /-- START_M, R123. -/
  | startM (p : PortId)
  /-- START_RESYNC, R124. -/
  | startResync (p : PortId) (b : Byte)
  /-- M_DIR.ACTION, R125 with `<`. -/
  | mDirAction (p : PortId)
  /-- M_DIR.QUERY, R125 with `>`. -/
  | mDirQuery (p : PortId)
  /-- M_RESYNC, R126. -/
  | mResync (p : PortId) (b : Byte)
  /-- ARROW_ID, R127. -/
  | arrowId (p : PortId) (b : Byte)
  /-- ID_LEN_OK, R128. -/
  | idLenOk (p : PortId) (b : Byte)
  /-- ID_LEN_REJECT, R129. -/
  | idLenReject (p : PortId) (b : Byte)
  /-- SIZE_CMD, R130. -/
  | sizeCmd (p : PortId) (b : Byte)
  /-- CMD_PAYLOAD, R131. -/
  | cmdPayload (p : PortId) (b : Byte)
  /-- CMD_TRAILER_OK, R132. -/
  | cmdTrailerOk (p : PortId) (b : Byte)
  /-- CMD_TRAILER_BAD, R133. -/
  | cmdTrailerBad (p : PortId) (b : Byte)
  /-- DONE_DROP, R134. -/
  | doneDrop (p : PortId) (b : Byte)
  -- control operations of the host (41, 42, 43, 70)
  /-- FRAME_VIEW, R160. -/
  | frameView (p : PortId)
  /-- PORT_RELEASE, R162. -/
  | portRelease (p : PortId)
  /-- HOST_READ8, R164. -/
  | hostRead8 (p : PortId)
  /-- HOST_READ16, R166. -/
  | hostRead16 (p : PortId)
  /-- HOST_READ32, R167. -/
  | hostRead32 (p : PortId)
  /-- SET_LOCAL_ID, R168. -/
  | setLocalId (v : Byte)
  /-- GET_LOCAL_ID, R169. -/
  | getLocalId
  /-- TX_REPLY, R183. -/
  | txReply (ch : ChanId) (c : Byte) (payload : List Byte)
  /-- TX_ERROR, R184. -/
  | txError (ch : ChanId) (c : Byte)
  /-- ROUTE, R203. -/
  | route (p : PortId)
  /-- RELAY, R207. -/
  | relay (p : PortId) (ch : ChanId)
  /-- RELAY_PASS, R208. -/
  | relayPass (p : PortId) (ch : ChanId)
  /-- RELAY_REWRITE, R211. -/
  | relayRewrite (p : PortId) (ch : ChanId)
  /-- RESET, R310. -/
  | reset
  -- queries of the dispatcher (44, section 3)
  /-- QUERY_VERSION, R241. -/
  | queryVersion (p : PortId) (ch : ChanId)
  /-- QUERY_DEVICE_ID, R242. -/
  | queryDeviceId (p : PortId) (ch : ChanId)
  /-- QUERY_STATUS, R243. -/
  | queryStatus (p : PortId) (ch : ChanId)
  /-- QUERY_CHANNEL, R244. -/
  | queryChannel (p : PortId) (ch : ChanId)
  /-- QUERY_RSSI, R245. -/
  | queryRssi (p : PortId) (ch : ChanId)
  /-- QUERY_RSSI_THRESHOLD, R246. -/
  | queryRssiThreshold (p : PortId) (ch : ChanId)
  /-- QUERY_RSSI_FILTER, R247. -/
  | queryRssiFilter (p : PortId) (ch : ChanId)
  /-- QUERY_LAP_MAX, R248. -/
  | queryLapMax (p : PortId) (ch : ChanId)
  /-- QUERY_LAP_MIN_TIME, R249. -/
  | queryLapMinTime (p : PortId) (ch : ChanId)
  /-- QUERY_LAST_LAP, R250. -/
  | queryLastLap (p : PortId) (ch : ChanId)
  /-- QUERY_SELECTED_LAP, R251. -/
  | querySelectedLap (p : PortId) (ch : ChanId)
  /-- QUERY_DEBUG, R252. -/
  | queryDebug (p : PortId) (ch : ChanId)
  -- actions of the dispatcher (44, section 4)
  /-- ACTION_RESET, R253. -/
  | actionReset (p : PortId) (ch : ChanId)
  /-- ACTION_CALIBRATE, R254. -/
  | actionCalibrate (p : PortId) (ch : ChanId)
  /-- ACTION_START, R255. -/
  | actionStart (p : PortId) (ch : ChanId)
  /-- ACTION_ACTIVATE, R256. -/
  | actionActivate (p : PortId) (ch : ChanId)
  /-- ACTION_DEACTIVATE, R257. -/
  | actionDeactivate (p : PortId) (ch : ChanId)
  /-- ACTION_SET_DEVICE_ID, R258. -/
  | actionSetDeviceId (p : PortId) (ch : ChanId)
  /-- ACTION_SELECT_LAP, R259. -/
  | actionSelectLap (p : PortId) (ch : ChanId)
  /-- ACTION_SET_CHANNEL, R260. -/
  | actionSetChannel (p : PortId) (ch : ChanId)
  /-- ACTION_SET_RSSI_THRESHOLD, R261. -/
  | actionSetRssiThreshold (p : PortId) (ch : ChanId)
  /-- ACTION_SET_RSSI_FILTER, R262. -/
  | actionSetRssiFilter (p : PortId) (ch : ChanId)
  /-- ACTION_SET_LAP_MIN_TIME, R263. -/
  | actionSetLapMinTime (p : PortId) (ch : ChanId)
  /-- ACTION_SET_LAP_MAX, R264. -/
  | actionSetLapMax (p : PortId) (ch : ChanId)
  /-- ACTION_SET_DEBUG, R265. -/
  | actionSetDebug (p : PortId) (ch : ChanId)
  /-- ACTION_PERSIST, R266. -/
  | actionPersist (p : PortId) (ch : ChanId)
  /-- UNKNOWN_COMMAND, R236. -/
  | unknownCommand (p : PortId) (ch : ChanId)
  deriving DecidableEq, Repr

end Sys2Proof
end

