-- ==== Sys2Proof/WellFormed.lean ====
section
/-! DEFINITION. Which operations a device with `nPorts` ports and `nChans` channels has: the ports and channels exist,
and a byte-step row's byte lies in the row's byte class (30_encoding R100). What depends on a port's state (the parse
state, the cursors, the checksum, the code held) is the decoder's, not a matter of form. -/

namespace Sys2Proof

/-- The byte class of R128: a legal length byte. -/
def Byte.isLength (b : Byte) : Bool := decide (b.toNat ≤ Config.bufCap)

/-- The byte class of R125: an accepted direction marker. -/
def Byte.isDirection (b : Byte) : Bool := b == Config.dirAction || b == Config.dirQuery

/-- Well-formedness of an operation on a device with `nPorts` ports and `nChans` channels. -/
def Instr.wf (nPorts nChans : Nat) : Instr → Bool
  | .idleSync p => decide (p < nPorts)
  | .idleReject p b => decide (p < nPorts) && b != Config.sync0
  | .startM p => decide (p < nPorts)
  | .startResync p b => decide (p < nPorts) && b != Config.sync1
  | .mDirAction p => decide (p < nPorts)
  | .mDirQuery p => decide (p < nPorts)
  | .mResync p b => decide (p < nPorts) && !Byte.isDirection b
  | .arrowId p _ => decide (p < nPorts)
  | .idLenOk p b => decide (p < nPorts) && Byte.isLength b
  | .idLenReject p b => decide (p < nPorts) && !Byte.isLength b
  | .sizeCmd p _ => decide (p < nPorts)
  | .cmdPayload p _ => decide (p < nPorts)
  | .cmdTrailerOk p _ => decide (p < nPorts)
  | .cmdTrailerBad p _ => decide (p < nPorts)
  | .doneDrop p _ => decide (p < nPorts)
  | .frameView p => decide (p < nPorts)
  | .portRelease p => decide (p < nPorts)
  | .hostRead8 p => decide (p < nPorts)
  | .hostRead16 p => decide (p < nPorts)
  | .hostRead32 p => decide (p < nPorts)
  | .setLocalId _ => true
  | .getLocalId => true
  | .txReply ch _ _ => decide (ch < nChans)
  | .txError ch _ => decide (ch < nChans)
  | .route p => decide (p < nPorts)
  | .relay p ch => decide (p < nPorts) && decide (ch < nChans)
  | .relayPass p ch => decide (p < nPorts) && decide (ch < nChans)
  | .relayRewrite p ch => decide (p < nPorts) && decide (ch < nChans)
  | .reset => true
  | .queryVersion p ch => decide (p < nPorts) && decide (ch < nChans)
  | .queryDeviceId p ch => decide (p < nPorts) && decide (ch < nChans)
  | .queryStatus p ch => decide (p < nPorts) && decide (ch < nChans)
  | .queryChannel p ch => decide (p < nPorts) && decide (ch < nChans)
  | .queryRssi p ch => decide (p < nPorts) && decide (ch < nChans)
  | .queryRssiThreshold p ch => decide (p < nPorts) && decide (ch < nChans)
  | .queryRssiFilter p ch => decide (p < nPorts) && decide (ch < nChans)
  | .queryLapMax p ch => decide (p < nPorts) && decide (ch < nChans)
  | .queryLapMinTime p ch => decide (p < nPorts) && decide (ch < nChans)
  | .queryLastLap p ch => decide (p < nPorts) && decide (ch < nChans)
  | .querySelectedLap p ch => decide (p < nPorts) && decide (ch < nChans)
  | .queryDebug p ch => decide (p < nPorts) && decide (ch < nChans)
  | .actionReset p ch => decide (p < nPorts) && decide (ch < nChans)
  | .actionCalibrate p ch => decide (p < nPorts) && decide (ch < nChans)
  | .actionStart p ch => decide (p < nPorts) && decide (ch < nChans)
  | .actionActivate p ch => decide (p < nPorts) && decide (ch < nChans)
  | .actionDeactivate p ch => decide (p < nPorts) && decide (ch < nChans)
  | .actionSetDeviceId p ch => decide (p < nPorts) && decide (ch < nChans)
  | .actionSelectLap p ch => decide (p < nPorts) && decide (ch < nChans)
  | .actionSetChannel p ch => decide (p < nPorts) && decide (ch < nChans)
  | .actionSetRssiThreshold p ch => decide (p < nPorts) && decide (ch < nChans)
  | .actionSetRssiFilter p ch => decide (p < nPorts) && decide (ch < nChans)
  | .actionSetLapMinTime p ch => decide (p < nPorts) && decide (ch < nChans)
  | .actionSetLapMax p ch => decide (p < nPorts) && decide (ch < nChans)
  | .actionSetDebug p ch => decide (p < nPorts) && decide (ch < nChans)
  | .actionPersist p ch => decide (p < nPorts) && decide (ch < nChans)
  | .unknownCommand p ch => decide (p < nPorts) && decide (ch < nChans)

end Sys2Proof
end

