-- ==== Sys2Proof/Decode.lean ====
section
/-! DEFINITION. From an input to an operation, and back. The block has no instruction words of the processor kind: a
byte means what the port's parse state makes of it (30_encoding R100), a control operation is known by its name
(R105), and a command by the code of the frame held (R231, R233). -/

namespace Sys2Proof

/-- The names of the control operations (R105). -/
inductive OpName where
  | frameView | portRelease | hostRead8 | hostRead16 | hostRead32 | setLocalId | getLocalId
  | txReply | txError | route | relay | relayPass | relayRewrite | reset
  deriving DecidableEq, Repr

/-- A control operation as the host asks for it: its name and its operands. An operand the operation does not take
is 0 or empty. -/
structure Request where
  op : OpName
  port : PortId := 0
  chan : ChanId := 0
  val : Byte := 0
  payload : List Byte := []
  deriving DecidableEq, Repr

/-- One input to the device (log 1): a byte presented to a port (R11), a control operation requested by the host
(R12), a held frame given to the dispatcher with the channel of its reply (R233), or, no operations of the table, a change
of the data the collaborator measures (R267; log 20) and a call of its device-state setter (R267; log 33). -/
inductive Input where
  | byte (p : PortId) (b : Byte)
  | request (r : Request)
  | dispatch (p : PortId) (ch : ChanId)
  | measure (m : Measured)
  | setDeviceState (v : Byte)
  deriving DecidableEq, Repr

/-- What the decode map of R100 and the command tables look at in a port. -/
structure PortCtx where
  state : ParseState
  wr : Cursor
  len : Byte
  cksum : Byte
  cmd : Byte
  deriving DecidableEq, Repr

/-- What the decoder looks at in the device. -/
structure DecodeEnv where
  ports : List PortCtx
  nChans : Nat
  codes : Codes
  deriving DecidableEq, Repr

/-- Why the decoder rejects an input. The spec gives such an input no meaning (log 12). -/
inductive Reject where
  /-- The device has no port of that number. -/
  | noSuchPort
  /-- The device has no transmit channel of that number. -/
  | noSuchChannel
  /-- A request carries an operand its operation does not take. -/
  | strayOperand
  /-- A change of the collaborator's data outside a command (its measured data, its device state) is no operation. -/
  | notAnOperation
  deriving DecidableEq, Repr

/-! ### Byte steps -/

/-- The decode map of the receive framer (R100): which row the byte `b`, presented to port `p`, selects. In
`HeaderCmd` the byte is the trailer as soon as `wr < len` fails (R132, decision D35). -/
def decodeByte (c : PortCtx) (p : PortId) (b : Byte) : Instr :=
  match c.state with
  | .idle => if b = Config.sync0 then .idleSync p else .idleReject p b
  | .frameStart => if b = Config.sync1 then .startM p else .startResync p b
  | .headerM =>
    if b = Config.dirAction then .mDirAction p
    else if b = Config.dirQuery then .mDirQuery p
    else .mResync p b
  | .headerArrow => .arrowId p b
  | .headerDeviceId => if b.toNat ≤ Config.bufCap then .idLenOk p b else .idLenReject p b
  | .headerSize => .sizeCmd p b
  | .headerCmd =>
    if c.wr.toNat < c.len.toNat then .cmdPayload p b
    else if b = c.cksum then .cmdTrailerOk p b
    else .cmdTrailerBad p b
  | .commandReceived => .doneDrop p b

/-! ### Control operations -/

/-- Which operands an operation takes, as spec/opcode_table.json lists them. -/
structure Operands where
  port : Bool := false
  chan : Bool := false
  val : Bool := false
  payload : Bool := false
  deriving DecidableEq, Repr

/-- The operands of each control operation (R160 to R169, R183, R184, R203 to R211, R310). -/
def OpName.operands : OpName → Operands
  | .frameView | .portRelease | .hostRead8 | .hostRead16 | .hostRead32 | .route => { port := true }
  | .setLocalId => { val := true }
  | .getLocalId | .reset => {}
  | .txReply => { chan := true, val := true, payload := true }
  | .txError => { chan := true, val := true }
  | .relay | .relayPass | .relayRewrite => { port := true, chan := true }

/-- Every operand the operation does not take is 0 or empty. -/
def Request.strayFree (r : Request) : Bool :=
  (r.op.operands.port || r.port == 0) && (r.op.operands.chan || r.chan == 0) &&
    (r.op.operands.val || r.val == 0) && (r.op.operands.payload || r.payload.isEmpty)

/-- The operation a request names. -/
def Request.instr (r : Request) : Instr :=
  match r.op with
  | .frameView => .frameView r.port
  | .portRelease => .portRelease r.port
  | .hostRead8 => .hostRead8 r.port
  | .hostRead16 => .hostRead16 r.port
  | .hostRead32 => .hostRead32 r.port
  | .setLocalId => .setLocalId r.val
  | .getLocalId => .getLocalId
  | .txReply => .txReply r.chan r.val r.payload
  | .txError => .txError r.chan r.val
  | .route => .route r.port
  | .relay => .relay r.port r.chan
  | .relayPass => .relayPass r.port r.chan
  | .relayRewrite => .relayRewrite r.port r.chan
  | .reset => .reset

/-- The decoder's reading of a request. -/
def decodeRequest (e : DecodeEnv) (r : Request) : Except Reject Instr :=
  if !r.strayFree then .error .strayOperand
  else if r.op.operands.port && e.ports[r.port]?.isNone then .error .noSuchPort
  else if r.op.operands.chan && !decide (r.chan < e.nChans) then .error .noSuchChannel
  else .ok r.instr

/-! ### Commands -/

/-- The query table: code and command (R231, R238). -/
def queryTable (k : Codes) : List (Byte × (PortId → ChanId → Instr)) :=
  [(k.version, .queryVersion), (k.deviceId, .queryDeviceId), (k.status, .queryStatus), (k.channel, .queryChannel),
    (k.rssi, .queryRssi), (k.rssiThreshold, .queryRssiThreshold), (k.rssiFilter, .queryRssiFilter),
    (k.lapMax, .queryLapMax), (k.lapMinTime, .queryLapMinTime), (k.lastLap, .queryLastLap),
    (k.selectedLap, .querySelectedLap), (k.debug, .queryDebug)]

/-- The action table: code and command (R231, R239). -/
def actionTable (k : Codes) : List (Byte × (PortId → ChanId → Instr)) :=
  [(k.reset, .actionReset), (k.calibrate, .actionCalibrate), (k.start, .actionStart), (k.activate, .actionActivate),
    (k.deactivate, .actionDeactivate), (k.setDeviceId, .actionSetDeviceId), (k.selectLap, .actionSelectLap),
    (k.setChannel, .actionSetChannel), (k.setRssiThreshold, .actionSetRssiThreshold),
    (k.setRssiFilter, .actionSetRssiFilter), (k.setLapMinTime, .actionSetLapMinTime), (k.setLapMax, .actionSetLapMax),
    (k.setDebug, .actionSetDebug), (k.persist, .actionPersist)]

/-- The resolution of a command code (R233): the query table, then the action table, then the unknown command. It
reads the code only, not the direction marker (R237). -/
def decodeCommand (k : Codes) (p : PortId) (ch : ChanId) (c : Byte) : Instr :=
  match (queryTable k).lookup c with
  | some f => f p ch
  | none =>
    match (actionTable k).lookup c with
    | some f => f p ch
    | none => .unknownCommand p ch

/-! ### The decoder and the encoder -/

/-- The decoder: total on every input, rejecting by name. -/
def decode (e : DecodeEnv) : Input → Except Reject Instr
  | .byte p b =>
    match e.ports[p]? with
    | some c => .ok (decodeByte c p b)
    | none => .error .noSuchPort
  | .request r => decodeRequest e r
  | .dispatch p ch =>
    match e.ports[p]? with
    | some c => if ch < e.nChans then .ok (decodeCommand e.codes p ch c.cmd) else .error .noSuchChannel
    | none => .error .noSuchPort
  | .measure _ => .error .notAnOperation
  | .setDeviceState _ => .error .notAnOperation

/-- The input that asks for an operation: the byte of a byte-step row (R100), the named request of a control row
(R105), the dispatch of the held frame for a command row (R233). -/
def encode : Instr → Input
  | .idleSync p => .byte p Config.sync0
  | .idleReject p b => .byte p b
  | .startM p => .byte p Config.sync1
  | .startResync p b => .byte p b
  | .mDirAction p => .byte p Config.dirAction
  | .mDirQuery p => .byte p Config.dirQuery
  | .mResync p b => .byte p b
  | .arrowId p b => .byte p b
  | .idLenOk p b => .byte p b
  | .idLenReject p b => .byte p b
  | .sizeCmd p b => .byte p b
  | .cmdPayload p b => .byte p b
  | .cmdTrailerOk p b => .byte p b
  | .cmdTrailerBad p b => .byte p b
  | .doneDrop p b => .byte p b
  | .frameView p => .request { op := .frameView, port := p }
  | .portRelease p => .request { op := .portRelease, port := p }
  | .hostRead8 p => .request { op := .hostRead8, port := p }
  | .hostRead16 p => .request { op := .hostRead16, port := p }
  | .hostRead32 p => .request { op := .hostRead32, port := p }
  | .setLocalId v => .request { op := .setLocalId, val := v }
  | .getLocalId => .request { op := .getLocalId }
  | .txReply ch c pl => .request { op := .txReply, chan := ch, val := c, payload := pl }
  | .txError ch c => .request { op := .txError, chan := ch, val := c }
  | .route p => .request { op := .route, port := p }
  | .relay p ch => .request { op := .relay, port := p, chan := ch }
  | .relayPass p ch => .request { op := .relayPass, port := p, chan := ch }
  | .relayRewrite p ch => .request { op := .relayRewrite, port := p, chan := ch }
  | .reset => .request { op := .reset }
  | .queryVersion p ch => .dispatch p ch
  | .queryDeviceId p ch => .dispatch p ch
  | .queryStatus p ch => .dispatch p ch
  | .queryChannel p ch => .dispatch p ch
  | .queryRssi p ch => .dispatch p ch
  | .queryRssiThreshold p ch => .dispatch p ch
  | .queryRssiFilter p ch => .dispatch p ch
  | .queryLapMax p ch => .dispatch p ch
  | .queryLapMinTime p ch => .dispatch p ch
  | .queryLastLap p ch => .dispatch p ch
  | .querySelectedLap p ch => .dispatch p ch
  | .queryDebug p ch => .dispatch p ch
  | .actionReset p ch => .dispatch p ch
  | .actionCalibrate p ch => .dispatch p ch
  | .actionStart p ch => .dispatch p ch
  | .actionActivate p ch => .dispatch p ch
  | .actionDeactivate p ch => .dispatch p ch
  | .actionSetDeviceId p ch => .dispatch p ch
  | .actionSelectLap p ch => .dispatch p ch
  | .actionSetChannel p ch => .dispatch p ch
  | .actionSetRssiThreshold p ch => .dispatch p ch
  | .actionSetRssiFilter p ch => .dispatch p ch
  | .actionSetLapMinTime p ch => .dispatch p ch
  | .actionSetLapMax p ch => .dispatch p ch
  | .actionSetDebug p ch => .dispatch p ch
  | .actionPersist p ch => .dispatch p ch
  | .unknownCommand p ch => .dispatch p ch

/-! ### When a row is the one selected -/

/-- A condition on port `p`, false where the device has none. -/
def DecodeEnv.portIs (e : DecodeEnv) (p : PortId) (f : PortCtx → Bool) : Bool :=
  match e.ports[p]? with
  | some c => f c
  | none => false

/-- Whether the ports and the codes are as the row's rule asks: the parse state of a byte-step row with, in
`HeaderCmd`, the cursor and the checksum (R121 to R134); the code held of a command row (R231, R236). A control row
asks nothing. What the row asks of the byte itself is its well-formedness. -/
def Instr.fits (e : DecodeEnv) : Instr → Bool
  | .idleSync p => e.portIs p fun c => c.state == .idle
  | .idleReject p _ => e.portIs p fun c => c.state == .idle
  | .startM p => e.portIs p fun c => c.state == .frameStart
  | .startResync p _ => e.portIs p fun c => c.state == .frameStart
  | .mDirAction p => e.portIs p fun c => c.state == .headerM
  | .mDirQuery p => e.portIs p fun c => c.state == .headerM
  | .mResync p _ => e.portIs p fun c => c.state == .headerM
  | .arrowId p _ => e.portIs p fun c => c.state == .headerArrow
  | .idLenOk p _ => e.portIs p fun c => c.state == .headerDeviceId
  | .idLenReject p _ => e.portIs p fun c => c.state == .headerDeviceId
  | .sizeCmd p _ => e.portIs p fun c => c.state == .headerSize
  | .cmdPayload p _ => e.portIs p fun c => c.state == .headerCmd && decide (c.wr.toNat < c.len.toNat)
  | .cmdTrailerOk p b => e.portIs p fun c => c.state == .headerCmd && decide (c.len.toNat ≤ c.wr.toNat) && b == c.cksum
  | .cmdTrailerBad p b => e.portIs p fun c => c.state == .headerCmd && decide (c.len.toNat ≤ c.wr.toNat) && b != c.cksum
  | .doneDrop p _ => e.portIs p fun c => c.state == .commandReceived
  | .frameView _ => true
  | .portRelease _ => true
  | .hostRead8 _ => true
  | .hostRead16 _ => true
  | .hostRead32 _ => true
  | .setLocalId _ => true
  | .getLocalId => true
  | .txReply _ _ _ => true
  | .txError _ _ => true
  | .route _ => true
  | .relay _ _ => true
  | .relayPass _ _ => true
  | .relayRewrite _ _ => true
  | .reset => true
  | .queryVersion p _ => e.portIs p fun c => c.cmd == e.codes.version
  | .queryDeviceId p _ => e.portIs p fun c => c.cmd == e.codes.deviceId
  | .queryStatus p _ => e.portIs p fun c => c.cmd == e.codes.status
  | .queryChannel p _ => e.portIs p fun c => c.cmd == e.codes.channel
  | .queryRssi p _ => e.portIs p fun c => c.cmd == e.codes.rssi
  | .queryRssiThreshold p _ => e.portIs p fun c => c.cmd == e.codes.rssiThreshold
  | .queryRssiFilter p _ => e.portIs p fun c => c.cmd == e.codes.rssiFilter
  | .queryLapMax p _ => e.portIs p fun c => c.cmd == e.codes.lapMax
  | .queryLapMinTime p _ => e.portIs p fun c => c.cmd == e.codes.lapMinTime
  | .queryLastLap p _ => e.portIs p fun c => c.cmd == e.codes.lastLap
  | .querySelectedLap p _ => e.portIs p fun c => c.cmd == e.codes.selectedLap
  | .queryDebug p _ => e.portIs p fun c => c.cmd == e.codes.debug
  | .actionReset p _ => e.portIs p fun c => c.cmd == e.codes.reset
  | .actionCalibrate p _ => e.portIs p fun c => c.cmd == e.codes.calibrate
  | .actionStart p _ => e.portIs p fun c => c.cmd == e.codes.start
  | .actionActivate p _ => e.portIs p fun c => c.cmd == e.codes.activate
  | .actionDeactivate p _ => e.portIs p fun c => c.cmd == e.codes.deactivate
  | .actionSetDeviceId p _ => e.portIs p fun c => c.cmd == e.codes.setDeviceId
  | .actionSelectLap p _ => e.portIs p fun c => c.cmd == e.codes.selectLap
  | .actionSetChannel p _ => e.portIs p fun c => c.cmd == e.codes.setChannel
  | .actionSetRssiThreshold p _ => e.portIs p fun c => c.cmd == e.codes.setRssiThreshold
  | .actionSetRssiFilter p _ => e.portIs p fun c => c.cmd == e.codes.setRssiFilter
  | .actionSetLapMinTime p _ => e.portIs p fun c => c.cmd == e.codes.setLapMinTime
  | .actionSetLapMax p _ => e.portIs p fun c => c.cmd == e.codes.setLapMax
  | .actionSetDebug p _ => e.portIs p fun c => c.cmd == e.codes.setDebug
  | .actionPersist p _ => e.portIs p fun c => c.cmd == e.codes.persist
  | .unknownCommand p _ => e.portIs p fun c => !(e.codes.queries ++ e.codes.actions).contains c.cmd

/-! ### The opcode table's own words -/

/-- The parse state of the first row of spec/opcode_table.json, in the table's order, whose match and mask read the
byte `b`: IDLE_SYNC, START_M, M_DIR.ACTION, M_DIR.QUERY, then ARROW_ID, which reads every byte (DESIGN CHOICE, log 3:
a byte without a parse state means nothing). -/
def tableState (b : Byte) : ParseState :=
  if b = Config.sync0 then .idle
  else if b = Config.sync1 then .frameStart
  else if b = Config.dirAction then .headerM
  else if b = Config.dirQuery then .headerM
  else .headerArrow

/-- The context `tableState` stands for. Only the parse state matters to the rows it names. -/
def tableCtx (b : Byte) : PortCtx := { state := tableState b, wr := 0, len := 0, cksum := 0, cmd := 0 }

/-- The first byte of a table word: bits 7 to 0. -/
def tableByte (w : Nat) : Byte := BitVec.ofNat 8 w

/-- What the decoder reads from a word of the opcode table: its first byte, presented to port 0 in the parse state of
the table row that reads it. A word of no byte is refused. -/
def decodeTableWord (nbits w : Nat) : Option Instr :=
  if nbits < 8 then none
  else (decode { ports := [tableCtx (tableByte w)], nChans := 1, codes := Config.device.params.codes }
    (.byte 0 (tableByte w))).toOption

end Sys2Proof
end

