-- ==== Sys2Proof/Machine/State.lean ====
section
/-! DEFINITION. Everything the spec gives the block (10_state), the surrounding software's data that the command rows
read and write (44), and the model's own fields, as plain data; and the state after reset (R50 to R54, R312). -/

namespace Sys2Proof.Machine

/-- The event of a byte step (R280). -/
inductive Event where
  | consumed | rejected | resync | lengthReject | checksumDiscard | frameDone | dropped
  deriving DecidableEq, Repr

/-- The reasons a control operation is refused (R290). -/
inductive Reason where
  | noFrame | readPastEnd | replyTooLong
  deriving DecidableEq, Repr

/-- The frame view (R160): the source's Frame (R32). -/
structure Frame where
  cmd : Byte
  targetId : Byte
  dir : Byte
  len : Byte
  payload : List Byte
  deriving DecidableEq, Repr

/-- What an operation reports. It is an output, "not stored anywhere" (R280); the model latches the last one so that
it can be seen, and nothing reads it (DESIGN CHOICE, log 8). -/
inductive Output where
  /-- Nothing yet. -/
  | quiet
  /-- A control operation or a command that returns no value. -/
  | done
  /-- The event of a byte step of a port (R280). -/
  | event (p : PortId) (e : Event)
  /-- The result of FRAME_VIEW (R160). -/
  | view (f : Frame)
  /-- The result of HOST_READ8 (R164) and GET_LOCAL_ID (R169). -/
  | byte (v : Byte)
  /-- The result of HOST_READ16 (R166). -/
  | half (v : Half)
  /-- The result of HOST_READ32 (R167). -/
  | word (v : Word)
  /-- The result of ROUTE (R203). -/
  | verdict (v : Verdict)
  /-- A refusal and its reason (R290). -/
  | refused (r : Reason)
  deriving DecidableEq, Repr

/-- The triggers of the collaborator contract (R267): reset, calibrate, start, activate, deactivate, persistence, and
those of the setters: "set triggers a hardware retune", "set triggers recomputation". -/
inductive Trigger where
  | reset | calibrate | start | activate | deactivate | persist | retune | recompute
  deriving DecidableEq, Repr

/-- A Port: the whole state of one receive framer, its nine fields in the source's order (R21 to R30). The buffer
lists the cells that hold a value, indices strictly rising and below 64. -/
structure Port where
  state : ParseState
  dir : Byte
  targetId : Byte
  len : Byte
  cksum : Byte
  buf : List Host.Cell
  wr : Cursor
  rd : Cursor
  cmd : Byte
  deriving DecidableEq, Repr

/-- A port after reset: `Idle` (R51); the fields R53 leaves unspecified are 0 (DESIGN CHOICE, log 4) and no cell of
the buffer has a value (log 5). -/
def Port.reset : Port where
  state := .idle
  dir := 0
  targetId := 0
  len := 0
  cksum := 0
  buf := []
  wr := 0
  rd := 0
  cmd := 0

/-- What the decoder looks at in a port. -/
def Port.ctx (q : Port) : PortCtx := { state := q.state, wr := q.wr, len := q.len, cksum := q.cksum, cmd := q.cmd }

/-- The state of the device. -/
structure State where
  /-- The ports (R20); their number is N_PORTS. -/
  ports : List Port
  /-- The local identity (R31). -/
  localId : Byte
  /-- The transmit stream of each channel, first byte sent first (R61). -/
  tx : List (List Byte)
  /-- What the collaborator's getters show (R267). -/
  collab : Collab
  /-- The selected lap (R259). No trigger touches it (DESIGN CHOICE, log 19). -/
  selection : Byte
  /-- The triggers raised to the collaborator, oldest first (R267). The model's own field, log 19. -/
  triggers : List Trigger
  /-- The inputs not yet taken, oldest first (R106). The model's own field, log 1. -/
  pending : List Input
  /-- The open parameters (R10). The model's own field, written by no step, log 9. -/
  params : Params
  /-- What the last operation reported. The model's own field, log 8. -/
  out : Output
  /-- The sticky mark of R290. The model's own field, log 7. -/
  refusalSeen : Bool
  /-- The number of the next free value. The model's own field, log 30. -/
  fresh : Nat
  deriving DecidableEq, Repr

/-- What makes the machine stop with a fault. Neither is reached from a state that meets `State.Inv`. -/
inductive Fault where
  /-- An index outside 0 to 63, for which R15 defines neither BufRead nor BufWrite. Raised by a payload byte step and
  by every read of the payload. Safe: the machine stops where the spec gives no behaviour (log 6). -/
  | bufferIndex
  /-- A read of a buffer cell that nothing has written, which R53 gives no value. Raised by every read of the payload.
  Safe: no value is invented (log 5). -/
  | unwrittenCell
  deriving DecidableEq, Repr

/-- What the machine has no meaning for. -/
inductive Refusal where
  /-- An operation without a meaning in the model, by its mnemonic. Raised by `exec` only. Safe. -/
  | notModelled (mnemonic : String)
  /-- The device has no port of that number. Raised by every meaning that names a port; the decoder rejects such an
  input before. Safe (log 12). -/
  | noSuchPort
  /-- The device has no transmit channel of that number. Raised by every meaning that emits; the decoder rejects such
  an input before. Safe (log 12). -/
  | noSuchChannel
  /-- A byte-step row applied to a port or a byte outside the operands its rule gives, or a command row applied to a
  frame that holds another code. Raised by the meanings of byte-step and command rows; the decoder never selects such
  a row. Safe (log 13). -/
  | ruleNotSelected
  /-- RELAY_PASS of an enumeration frame or RELAY_REWRITE of another frame: "not an operation the host can request"
  (R214). Raised by these two meanings. Safe (log 14). -/
  | armNotRequestable
  /-- An input the decoder rejects. Raised by `step`. Safe (log 12). -/
  | undecodable (r : Reject)
  deriving DecidableEq, Repr

/-- A collaborator whose data the spec gives no reset value for: all 0, no laps (DESIGN CHOICE, log 18). -/
def collabReset : Collab where
  measured :=
    { deviceState := 0, timerState := 0, laps := [], rssiRaw := 0, rssiMin := 0, rssiMax := 0, rssiFiltered := 0 }
  settings :=
    { channel := 0, threshold := 0, filterQ := 0, filterR := 0, minLapMs := 0, lapMax := 0, debug := 0 }

/-- The state after reset (R54, R312): every port `Idle`, the local id 1, nothing emitted; no input pending, and the
open parameters those of the device at hand. There is one transmit channel for each port (log 11). -/
def State.reset : State where
  ports := Port.reset :: List.replicate Config.extraPorts Port.reset
  localId := Config.localIdReset
  tx := [] :: List.replicate Config.extraPorts []
  collab := collabReset
  selection := 0
  triggers := []
  pending := []
  params := Config.device.params
  out := .quiet
  refusalSeen := false
  fresh := 0

end Sys2Proof.Machine
end

