-- ==== Sys2Proof/Machine/Flags.lean ====
section
/-! DEFINITION. The status outputs of the block: combinational functions of the state, none of them stored (R34). -/

namespace Sys2Proof.Machine

/-- `frame_ready(p)`: the completion signal (R34, R291). -/
def Port.frameReady (q : Port) : Bool := q.state == .commandReceived

/-- `rx_ready(p)`: advisory only (R34). -/
def Port.rxReady (q : Port) : Bool := q.state != .commandReceived

/-- `len_ok(b)`: the length guard comparator (R34). -/
def lenOk (b : Byte) : Bool := decide (b.toNat ≤ Config.bufCap)

/-- `cksum_match(p, b)`: the trailer comparator (R34). -/
def Port.cksumMatch (q : Port) (b : Byte) : Bool := b == q.cksum

/-- `match_wildcard(p)`: defined while a frame is held (R200). -/
def Port.matchWildcard (q : Port) : Bool := q.targetId == Config.wildcard

/-- `match_local(p)`: defined while a frame is held; it reads the local id at the moment of evaluation (R200). -/
def Port.matchLocal (q : Port) (localId : Byte) : Bool := q.targetId == localId

/-- `is_enum_frame(p)` (R210): the direction marker is `<` and the code is that of "set device id". -/
def Port.isEnumFrame (q : Port) (k : Codes) : Bool := q.dir == Config.dirAction && q.cmd == k.setDeviceId

/-- What the routing policy sees of the frame held (R203). -/
def Port.routeKey (q : Port) (localId : Byte) : RouteKey :=
  { matchLocal := q.matchLocal localId, matchWildcard := q.matchWildcard, dir := q.dir, cmd := q.cmd }

end Sys2Proof.Machine
end

