-- ==== Sys2Proof/Machine/Operands.lean ====
section
/-! DEFINITION. Operand assembly (R99, R67), the payload encodings of the dispatcher (R232), the checksum (R96) and
the one frame format (R90, R181), with the notation of R106 and R107. -/

namespace Sys2Proof.Machine

/-- `XOR(list)` (R14). -/
def xorList (bs : List Byte) : Byte := bs.foldl (· ^^^ ·) 0

/-- A 16-bit operand from its two bytes, the low one first (R67, R99). -/
def half (lo hi : Byte) : Half := hi ++ lo

/-- A 32-bit operand from two halves, the low one first (R67). -/
def word (l h : Half) : Word := h ++ l

/-- The 16-bit operand at the start of a byte list; bytes that are not there count as 0. -/
def halfOf (bs : List Byte) : Half := half (bs.getD 0 0) (bs.getD 1 0)

/-- `enc16(v)` (R232). -/
def enc16 (v : Half) : List Byte := [v.extractLsb' 0 8, v.extractLsb' 8 8]

/-- `enc32(v)` (R232): low half first. -/
def enc32 (v : Word) : List Byte := enc16 (v.extractLsb' 0 16) ++ enc16 (v.extractLsb' 16 16)

/-- The checksum of a frame (R96): length, command code and payload, and nothing else. -/
def checksum (len cmd : Byte) (payload : List Byte) : Byte := len ^^^ cmd ^^^ xorList payload

/-- The serialiser of R181: `['$', 'M', d, i, n, c] ++ pl ++ [k]`. -/
def serialize (d i c : Byte) (payload : List Byte) : List Byte :=
  let n : Byte := BitVec.ofNat 8 payload.length
  [Config.sync0, Config.sync1, d, i, n, c] ++ payload ++ [checksum n c payload]

/-- The serialiser as the transmit framer performs it (R182): after the id byte the accumulator is 0; each byte
written after that, but for the last, is XORed into it; the last byte written is the accumulator. -/
def streamOut (acc : Byte) : List Byte → List Byte
  | [] => [acc]
  | b :: bs => b :: streamOut (acc ^^^ b) bs

/-- `REPLY_OK(c, payload)` (R107) of a device with that local id. -/
def replyOk (localId c : Byte) (payload : List Byte) : List Byte := serialize Config.dirQuery localId c payload

/-- `REPLY_ERR(c)` (R107) of a device with that local id and error marker. -/
def replyErr (dirError localId c : Byte) : List Byte := serialize dirError localId c []

/-- `ENUM(i, v)` (R107): a "set device id" frame. -/
def enumFrame (k : Codes) (i v : Byte) : List Byte := serialize Config.dirAction i k.setDeviceId [v]

/-- The eight bytes of a lap record after its first (R250). -/
def lapBytes (l : Lap) : List Byte := enc32 l.time ++ enc16 l.raw ++ enc16 l.filtered

/-- The lap count as a byte (R250, R252). -/
def lapCountByte (m : Measured) : Byte := BitVec.ofNat 8 m.laps.length

end Sys2Proof.Machine
end

