-- ==== Sys2Proof/Machine/Ops.lean ====
section
/-! DEFINITION. The named operations the meanings are written over: the buffer, the read cursor, a framing failure
and the hand-over of a frame and its return (60_exceptions), refusals (R290), emission (R180), the collaborator's
triggers (R267), and the taking of an input. -/

namespace Sys2Proof.Machine

/-- The outcome of an operation. -/
abbrev Res := Host.Outcome State Fault Refusal

/-! ### The payload buffer (20_memory) -/

namespace Memory

/-- The value of a cell, if it has one. -/
def read : List Host.Cell → Nat → Option Byte
  | [], _ => none
  | (a, v) :: m, i => if a = i then some v else read m i

/-- Give a cell a value, keeping the cells in rising order of their indices. -/
def write : List Host.Cell → Nat → Byte → List Host.Cell
  | [], i, v => [(i, v)]
  | (a, w) :: m, i, v =>
    if i < a then (i, v) :: (a, w) :: m
    else if i = a then (i, v) :: m
    else (a, w) :: write m i v

/-- Indices strictly rising from `lo` on, all below the capacity. -/
def wfFrom (lo : Nat) : List Host.Cell → Bool
  | [] => true
  | (a, _) :: m => decide (lo ≤ a) && decide (a < Config.bufCap) && wfFrom (a + 1) m

/-- The canonical form of a buffer: indices strictly rising and below 64. An unlisted cell has no value, so no entry
can equal what an unlisted cell reads as. -/
def wf (m : List Host.Cell) : Bool := wfFrom 0 m

end Memory

/-- `BufRead(p, i)` (R15): defined for `0 ≤ i < 64`, and only for a cell that has a value (R53). -/
def bufRead (q : Port) (i : Nat) : Except Fault Byte :=
  if i < Config.bufCap then
    match Memory.read q.buf i with
    | some v => .ok v
    | none => .error .unwrittenCell
  else .error .bufferIndex

/-- `BufWrite(p, i, v)` (R15): defined for `0 ≤ i < 64`. -/
def bufWrite (q : Port) (i : Nat) (v : Byte) : Except Fault Port :=
  if i < Config.bufCap then .ok { q with buf := Memory.write q.buf i v } else .error .bufferIndex

/-- `n` cells from index `i` on, in rising order. -/
def bufReads (q : Port) (i : Nat) : Nat → Except Fault (List Byte)
  | 0 => .ok []
  | n + 1 =>
    match bufRead q i with
    | .error f => .error f
    | .ok b =>
      match bufReads q (i + 1) n with
      | .error f => .error f
      | .ok bs => .ok (b :: bs)

/-- `p.buf[0..p.len)`: the payload of the frame held, read with an index of its own (R64, R160). -/
def Port.payload (q : Port) : Except Fault (List Byte) := bufReads q 0 q.len.toNat

/-! ### Failure, completion and return (60_exceptions) -/

/-- What a framing failure does, in full: `p.state <- Idle` (R282). Nothing is saved, sent or recorded. -/
def Port.fail (q : Port) : Port := { q with state := .idle }

/-- The completion of a frame: the block's only entry into host code (R293). Nothing is saved elsewhere. -/
def Port.complete (q : Port) : Port := { q with state := .commandReceived }

/-- The return: PORT_RELEASE restores nothing but the parse state `Idle` (R162, R294). -/
def Port.release (q : Port) : Port := { q with state := .idle }

/-! ### Ports, channels, reports -/

/-- Replace a port. -/
def State.putPort (s : State) (p : PortId) (q : Port) : State := { s with ports := s.ports.set p q }

/-- Report the outcome of an operation. -/
def State.report (s : State) (o : Output) : State := { s with out := o }

/-- A control operation whose precondition fails is refused: no state of the block changes, nothing is emitted, no
value is returned; the reason is reported and the sticky mark set (R290). -/
def State.refuse (s : State) (r : Reason) : State := { s with out := .refused r, refusalSeen := true }

/-- `emit(ch, bytes)`: one atomic append to the channel's stream (R13, R83, R180). -/
def State.emit (s : State) (ch : ChanId) (bytes : List Byte) : State :=
  { s with tx := s.tx.modify ch (· ++ bytes) }

/-- What RESET writes: the parse states, the local id (R310), and the transmit streams, which are empty after it (R312,
R54; log 25). -/
def State.resetBlock (s : State) : State :=
  { s with
    ports := s.ports.map fun q : Port => { q with state := .idle }
    localId := Config.localIdReset
    tx := List.replicate s.tx.length [] }

/-- An operation on a port the device has. -/
def onPort (s : State) (p : PortId) (k : Port → Res) : Res :=
  match s.ports[p]? with
  | some q => k q
  | none => .refused .noSuchPort

/-- An operation that emits on a channel the device has. -/
def onChan (s : State) (ch : ChanId) (k : Res) : Res :=
  if ch < s.tx.length then k else .refused .noSuchChannel

/-- A control operation on the frame a port holds: refused with NoFrame where it holds none (R160, R163, R165,
R203, R207). -/
def onFrame (s : State) (p : PortId) (k : Port → Res) : Res :=
  onPort s p fun q => if q.state = .commandReceived then k q else .next (s.refuse .noFrame)

/-! ### The byte-step rules (R120) -/

/-- A byte-step rule: where its operands are as the rule asks, the port is updated and the event reported; elsewhere
the rule gives no meaning (log 13). -/
def byteRule (s : State) (p : PortId) (e : Event) (applies : Port → Bool) (upd : Port → Port) : Res :=
  onPort s p fun q =>
    if applies q then .next ((s.putPort p (upd q)).report (.event p e)) else .refused .ruleNotSelected

/-! ### The read cursor (R63, R164 to R167) -/

/-- What a read through the read cursor gives: the bytes and the port after it, a refusal and the port it leaves, or
a fault. -/
inductive ReadResult where
  | got (bs : List Byte) (q : Port)
  | refused (r : Reason) (q : Port)
  | fault (f : Fault)
  deriving DecidableEq, Repr

/-- `n` bytes at the read cursor, all or nothing (R164 to R167): refused with NoFrame where no frame is held, with
ReadPastEnd where fewer than `n` bytes are left; the cursor moves by `n`. -/
def hostRead (q : Port) (n : Nat) : ReadResult :=
  if q.state ≠ .commandReceived then .refused .noFrame q
  else if q.rd.toNat + n ≤ q.len.toNat then
    match bufReads q q.rd.toNat n with
    | .ok bs => .got bs { q with rd := q.rd + BitVec.ofNat 7 n }
    | .error f => .fault f
  else .refused .readPastEnd q

/-- Reads of the widths listed, one after the other, stopping at the first that is refused (R240). The bytes of all
of them are joined. -/
def hostReads (q : Port) : List Nat → ReadResult
  | [] => .got [] q
  | n :: ns =>
    match hostRead q n with
    | .got bs q' =>
      match hostReads q' ns with
      | .got cs q'' => .got (bs ++ cs) q''
      | r => r
    | r => r

/-- A host read that returns a value built from its bytes. -/
def readOp (s : State) (p : PortId) (n : Nat) (value : List Byte → Output) : Res :=
  onPort s p fun q =>
    match hostRead q n with
    | .got bs q' => .next ((s.putPort p q').report (value bs))
    | .refused r _ => .next (s.refuse r)
    | .fault f => .fault f

/-! ### Relaying (R207 to R214) -/

/-- The emission of the pass-through arm (R208). -/
def Port.passBytes (q : Port) : Except Fault (List Byte) :=
  match q.payload with
  | .ok pl => .ok (serialize q.dir q.targetId q.cmd pl)
  | .error f => .error f

/-- The emission of the enumeration arm (R211): the payload is the local id plus one, modulo 256 (R212). -/
def Port.rewriteBytes (q : Port) (localId : Byte) : List Byte := serialize q.dir q.targetId q.cmd [localId + 1]

/-- The pass-through arm: it emits and writes no state of the block (R213). -/
def relayPassArm (s : State) (ch : ChanId) (q : Port) : Res :=
  match q.passBytes with
  | .ok bs => .next ((s.emit ch bs).report .done)
  | .error f => .fault f

/-- The enumeration arm: it emits and writes no state of the block (R213). -/
def relayRewriteArm (s : State) (ch : ChanId) (q : Port) : Res :=
  .next ((s.emit ch (q.rewriteBytes s.localId)).report .done)

/-! ### The dispatcher (R233 to R236) -/

/-- A command on the frame a port holds, with the channel of its reply: the command's row is the one the frame's code
selects (R233). -/
def onCommand (s : State) (p : PortId) (ch : ChanId) (selects : Codes → Byte → Bool) (k : Port → Res) : Res :=
  onChan s ch (onFrame s p fun q => if selects s.params.codes q.cmd then k q else .refused .ruleNotSelected)

/-- A success reply (R183) to the command of the frame held: the id is the local id as it stands. -/
def State.reply (s : State) (ch : ChanId) (c : Byte) (payload : List Byte) : State :=
  (s.emit ch (replyOk s.localId c payload)).report .done

/-- An error reply (R184). -/
def State.replyError (s : State) (ch : ChanId) (c : Byte) : State :=
  (s.emit ch (replyErr s.params.dirError s.localId c)).report .done

/-- A query (R234): its reply's data come from the state; the request's payload is not read. -/
def query (s : State) (p : PortId) (ch : ChanId) (code : Codes → Byte) (data : List Byte) : Res :=
  onCommand s p ch (fun k c => c == code k) fun q => .next (s.reply ch q.cmd data)

/-- What the host does when an action's read is refused (R240, decision D40): the refusal is reported, the action
has no effect, and the parameter SHORT_ACTION says whether an error reply is sent. -/
def shortAction (s : State) (ch : ChanId) (r : Reason) (c : Byte) : State :=
  match s.params.shortAction with
  | .errorReply => (s.replyError ch c).refuse r
  | .noReply => s.refuse r

/-- An action (R235): it reads its operands in order with the read cursor (R240), has its effect, and is answered
with an empty success reply, whose id is the local id after the effect (R183). -/
def action (s : State) (p : PortId) (ch : ChanId) (code : Codes → Byte) (widths : List Nat)
    (effect : List Byte → State → State) : Res :=
  onCommand s p ch (fun k c => c == code k) fun q =>
    match hostReads q widths with
    | .got bs q' => .next ((effect bs (s.putPort p q')).reply ch q.cmd [])
    | .refused r q' => .next (shortAction (s.putPort p q') ch r q.cmd)
    | .fault f => .fault f

/-! ### The collaborator (R267) -/

/-- The bounds of the contract: at most 50 lap records (R267), a lap maximum of at most 50 (R248). -/
def boundMeasured (m : Measured) : Measured := { m with laps := m.laps.take Config.maxLapsLimit }

/-- `min(v, 50)` (R264). -/
def clampLapMax (v : Byte) : Byte := BitVec.ofNat 8 (min v.toNat Config.maxLapsLimit)

/-- `min(requested, count)` (R259). -/
def clampSelection (requested : Byte) (count : Nat) : Byte := BitVec.ofNat 8 (min requested.toNat count)

/-- The collaborator within the bounds of its contract. -/
def boundCollab (c : Collab) : Collab where
  measured := boundMeasured c.measured
  settings := { c.settings with lapMax := clampLapMax c.settings.lapMax }

/-- What the collaborator's getters show after a trigger, `n` being the number of the free value: after a retune or a
recomputation the RSSI readings are free, after persistence nothing is changed, after every other trigger all its data
are free within the contract's bounds (log 19). -/
def collabAfter (c : Collab) (n : Nat) : Trigger → Collab
  | .persist => c
  | .retune | .recompute =>
    { c with
      measured :=
        { c.measured with
          rssiRaw := (Config.freeCollab n).measured.rssiRaw
          rssiMin := (Config.freeCollab n).measured.rssiMin
          rssiMax := (Config.freeCollab n).measured.rssiMax
          rssiFiltered := (Config.freeCollab n).measured.rssiFiltered } }
  | .reset | .calibrate | .start | .activate | .deactivate => boundCollab (Config.freeCollab n)

/-- Raise a trigger to the collaborator: it is logged, and the collaborator answers it. The stored lap selection (R259)
is kept by every trigger, the reset trigger of R253 included, which leaves open what is reset (DESIGN CHOICE, log 19). -/
def State.raise (s : State) (t : Trigger) : State :=
  { s with triggers := s.triggers ++ [t], collab := collabAfter s.collab s.fresh t, fresh := s.fresh + 1 }

/-- Write the collaborator's settings. -/
def State.set (s : State) (f : Settings → Settings) : State :=
  { s with collab := { s.collab with settings := f s.collab.settings } }

/-- `n` free bytes, and the counter past them. -/
def freeBytes (start n : Nat) : List Byte := (List.range n).map fun j => Config.freeByte (start + j)

/-! ### Inputs -/

/-- What the decoder looks at. -/
def State.env (s : State) : DecodeEnv :=
  { ports := s.ports.map Port.ctx, nChans := s.tx.length, codes := s.params.codes }

/-- The collaborator's measured data change by themselves, within the contract's bounds (R267; log 20). -/
def State.measure (s : State) (m : Measured) : State :=
  { s with collab := { s.collab with measured := boundMeasured m } }

/-- The setter of the device state in the collaborator's contract (R267): it stores every value, since the spec lists
no values of the device state (R243), and changes nothing else (log 33). -/
def State.setDeviceState (s : State) (v : Byte) : State :=
  { s with collab := { s.collab with measured := { s.collab.measured with deviceState := v } } }

/-- Present a table word: its first byte is the next input, to port 0, and port 0 is in the parse state of the table
row that reads it (log 3). -/
def State.present (s : State) (b : Byte) : State :=
  { s with
    ports := s.ports.modify 0 fun q => { q with state := tableState b }
    pending := .byte 0 b :: s.pending }

end Sys2Proof.Machine
end

