-- ==== Sys2Proof/Machine/Actions.lean ====
section
/-! DEFINITION. The fourteen actions of the dispatcher (44, section 4). -/

namespace Sys2Proof.Machine

/-- ACTION_RESET (R253): the collaborator's reset trigger, not the RESET of R310. -/
def execActionReset (p : PortId) (ch : ChanId) (s : State) : Res :=
  action s p ch Codes.reset [] fun _ t => t.raise .reset

/-- ACTION_CALIBRATE (R254). -/
def execActionCalibrate (p : PortId) (ch : ChanId) (s : State) : Res :=
  action s p ch Codes.calibrate [] fun _ t => t.raise .calibrate

/-- ACTION_START (R255). -/
def execActionStart (p : PortId) (ch : ChanId) (s : State) : Res :=
  action s p ch Codes.start [] fun _ t => t.raise .start

/-- ACTION_ACTIVATE (R256). -/
def execActionActivate (p : PortId) (ch : ChanId) (s : State) : Res :=
  action s p ch Codes.activate [] fun _ t => t.raise .activate

/-- ACTION_DEACTIVATE (R257). -/
def execActionDeactivate (p : PortId) (ch : ChanId) (s : State) : Res :=
  action s p ch Codes.deactivate [] fun _ t => t.raise .deactivate

/-- What "set device id" does with a payload of `v`: a payload of 0 is applied or ignored as SET_ID_ZERO says
(R258). -/
def newLocalId (z : SetIdZero) (old v : Byte) : Byte :=
  match z with
  | .apply => v
  | .ignore => if v = 0 then old else v

/-- ACTION_SET_DEVICE_ID (R258). -/
def execActionSetDeviceId (p : PortId) (ch : ChanId) (s : State) : Res :=
  action s p ch Codes.setDeviceId [1] fun bs t =>
    { t with localId := newLocalId t.params.setIdZero t.localId (bs.getD 0 0) }

/-- ACTION_SELECT_LAP (R259): clamped to the current lap count. -/
def execActionSelectLap (p : PortId) (ch : ChanId) (s : State) : Res :=
  action s p ch Codes.selectLap [1] fun bs t =>
    { t with selection := clampSelection (bs.getD 0 0) t.collab.measured.laps.length }

/-- ACTION_SET_CHANNEL (R260): it triggers a retune. -/
def execActionSetChannel (p : PortId) (ch : ChanId) (s : State) : Res :=
  action s p ch Codes.setChannel [2] fun bs t => (t.set fun c => { c with channel := halfOf bs }).raise .retune

/-- ACTION_SET_RSSI_THRESHOLD (R261). -/
def execActionSetRssiThreshold (p : PortId) (ch : ChanId) (s : State) : Res :=
  action s p ch Codes.setRssiThreshold [2] fun bs t => t.set fun c => { c with threshold := halfOf bs }

/-- ACTION_SET_RSSI_FILTER (R262): Q then R; it triggers the filter's recomputation. -/
def execActionSetRssiFilter (p : PortId) (ch : ChanId) (s : State) : Res :=
  action s p ch Codes.setRssiFilter [2, 2] fun bs t =>
    (t.set fun c => { c with filterQ := halfOf bs, filterR := halfOf (bs.drop 2) }).raise .recompute

/-- ACTION_SET_LAP_MIN_TIME (R263): whole seconds, stored in milliseconds. -/
def execActionSetLapMinTime (p : PortId) (ch : ChanId) (s : State) : Res :=
  action s p ch Codes.setLapMinTime [2] fun bs t =>
    t.set fun c => { c with minLapMs := (halfOf bs).setWidth 32 * 1000 }

/-- ACTION_SET_LAP_MAX (R264): clamped to 50. -/
def execActionSetLapMax (p : PortId) (ch : ChanId) (s : State) : Res :=
  action s p ch Codes.setLapMax [1] fun bs t => t.set fun c => { c with lapMax := clampLapMax (bs.getD 0 0) }

/-- ACTION_SET_DEBUG (R265): the byte is stored as it is. -/
def execActionSetDebug (p : PortId) (ch : ChanId) (s : State) : Res :=
  action s p ch Codes.setDebug [1] fun bs t => t.set fun c => { c with debug := bs.getD 0 0 }

/-- ACTION_PERSIST (R266). -/
def execActionPersist (p : PortId) (ch : ChanId) (s : State) : Res :=
  action s p ch Codes.persist [] fun _ t => t.raise .persist

end Sys2Proof.Machine
end

