-- ==== Sys2Proof/Machine/PortControl.lean ====
section
/-! DEFINITION. The port control operations of the host (41_port_control) and RESET (70_reset_and_hazards R310). -/

namespace Sys2Proof.Machine

/-- FRAME_VIEW (R160): reading it changes nothing. -/
def execFrameView (p : PortId) (s : State) : Res :=
  onFrame s p fun q =>
    match q.payload with
    | .ok pl =>
      .next (s.report (.view { cmd := q.cmd, targetId := q.targetId, dir := q.dir, len := q.len, payload := pl }))
    | .error f => .fault f

/-- PORT_RELEASE (R162, R163). -/
def execPortRelease (p : PortId) (s : State) : Res :=
  onFrame s p fun q => .next ((s.putPort p q.release).report .done)

/-- HOST_READ8 (R164, R165). -/
def execHostRead8 (p : PortId) (s : State) : Res := readOp s p 1 fun bs => .byte (bs.getD 0 0)

/-- HOST_READ16 (R166): two bytes, the low one first, all or nothing. -/
def execHostRead16 (p : PortId) (s : State) : Res := readOp s p 2 fun bs => .half (halfOf bs)

/-- HOST_READ32 (R167): two halves, the low one first, all or nothing. -/
def execHostRead32 (p : PortId) (s : State) : Res :=
  readOp s p 4 fun bs => .word (word (halfOf bs) (halfOf (bs.drop 2)))

/-- SET_LOCAL_ID (R168): every value is stored, 0 included. -/
def execSetLocalId (v : Byte) (s : State) : Res := .next (State.report { s with localId := v } .done)

/-- GET_LOCAL_ID (R169). -/
def execGetLocalId (s : State) : Res := .next (s.report (.byte s.localId))

/-- RESET (R310, R312): every port to `Idle`, the local id to 1, every transmit stream empty (R54); every other field
of the ports keeps what it holds, and so do the host's data and the model's own fields (log 25). -/
def execReset (s : State) : Res :=
  .next (s.resetBlock.report .done)

end Sys2Proof.Machine
end

