-- ==== Sys2Proof/Machine/Queries.lean ====
section
/-! DEFINITION. The twelve queries of the dispatcher (44, section 3) and the unknown command (R236). -/

namespace Sys2Proof.Machine

/-- QUERY_VERSION (R241). -/
def execQueryVersion (p : PortId) (ch : ChanId) (s : State) : Res :=
  query s p ch Codes.version [s.params.protocolVersion, s.params.apiMajor, s.params.apiMinor]

/-- QUERY_DEVICE_ID (R242). -/
def execQueryDeviceId (p : PortId) (ch : ChanId) (s : State) : Res := query s p ch Codes.deviceId [s.localId]

/-- QUERY_STATUS (R243). -/
def execQueryStatus (p : PortId) (ch : ChanId) (s : State) : Res :=
  query s p ch Codes.status [s.collab.measured.deviceState, s.collab.measured.timerState]

/-- QUERY_CHANNEL (R244). -/
def execQueryChannel (p : PortId) (ch : ChanId) (s : State) : Res :=
  query s p ch Codes.channel (enc16 s.collab.settings.channel)

/-- QUERY_RSSI (R245). -/
def execQueryRssi (p : PortId) (ch : ChanId) (s : State) : Res :=
  query s p ch Codes.rssi
    (enc16 s.collab.measured.rssiRaw ++ enc16 s.collab.measured.rssiMin ++ enc16 s.collab.measured.rssiMax ++
      enc16 s.collab.measured.rssiFiltered)

/-- QUERY_RSSI_THRESHOLD (R246). -/
def execQueryRssiThreshold (p : PortId) (ch : ChanId) (s : State) : Res :=
  query s p ch Codes.rssiThreshold (enc16 s.collab.settings.threshold)

/-- QUERY_RSSI_FILTER (R247). -/
def execQueryRssiFilter (p : PortId) (ch : ChanId) (s : State) : Res :=
  query s p ch Codes.rssiFilter (enc16 s.collab.settings.filterQ ++ enc16 s.collab.settings.filterR)

/-- QUERY_LAP_MAX (R248). -/
def execQueryLapMax (p : PortId) (ch : ChanId) (s : State) : Res :=
  query s p ch Codes.lapMax [s.collab.settings.lapMax]

/-- QUERY_LAP_MIN_TIME (R249): whole seconds, the unsigned division rounding toward zero. -/
def execQueryLapMinTime (p : PortId) (ch : ChanId) (s : State) : Res :=
  query s p ch Codes.lapMinTime (enc16 ((s.collab.settings.minLapMs / 1000).setWidth 16))

/-- QUERY_LAST_LAP (R250): the record at `count - 1`; with no lap complete, what LAST_LAP_EMPTY says. -/
def execQueryLastLap (p : PortId) (ch : ChanId) (s : State) : Res :=
  match s.collab.measured.laps.getLast? with
  | some l => query s p ch Codes.lastLap (lapCountByte s.collab.measured :: lapBytes l)
  | none =>
    match s.params.lastLapEmpty with
    | .zeroedRecord => query s p ch Codes.lastLap (List.replicate 9 0)
    | .errorReply =>
      onCommand s p ch (fun k c => c == k.lastLap) fun q => .next (s.replyError ch q.cmd)

/-- The array entry a selection reads (R251 leaves open which): none where the selection has reached the lap count
(93 U11). -/
def selectedEntry (which : SelectedEntry) (laps : List Lap) (selection : Byte) : Option Lap :=
  if selection.toNat < laps.length then
    match which, selection.toNat with
    | .atSelection, n => laps[n]?
    | .beforeSelection, 0 => none
    | .beforeSelection, n + 1 => laps[n]?
  else none

/-- QUERY_SELECTED_LAP (R251): nine bytes in the layout of R250, of which the first is open, and all nine where no
entry is selected (93 U11): free values (log 22). -/
def execQuerySelectedLap (p : PortId) (ch : ChanId) (s : State) : Res :=
  onCommand s p ch (fun k c => c == k.selectedLap) fun q =>
    .next ({ s with fresh := s.fresh + 9 }.reply ch q.cmd
      (match selectedEntry s.params.selectedEntry s.collab.measured.laps s.selection with
      | some l => Config.freeByte s.fresh :: lapBytes l
      | none => freeBytes s.fresh 9))

/-- QUERY_DEBUG (R252). The current RSSI is the raw reading (DEDUCED, log 24). -/
def execQueryDebug (p : PortId) (ch : ChanId) (s : State) : Res :=
  query s p ch Codes.debug
    ([s.collab.measured.deviceState, s.collab.measured.timerState, lapCountByte s.collab.measured] ++
      enc16 s.collab.measured.rssiRaw ++ enc16 s.collab.measured.rssiFiltered)

/-- UNKNOWN_COMMAND (R236): an error reply; no state changes. -/
def execUnknownCommand (p : PortId) (ch : ChanId) (s : State) : Res :=
  onCommand s p ch (fun k c => !(k.queries ++ k.actions).contains c) fun q => .next (s.replyError ch q.cmd)

end Sys2Proof.Machine
end

