-- ==== Sys2Proof/Machine/RelayMux.lean ====
section
/-! DEFINITION. Routing and relay (43_relay_mux). -/

namespace Sys2Proof.Machine

/-- ROUTE (R203): the policy's verdict on the two comparators, the direction and the code; nothing is written. -/
def execRoute (p : PortId) (s : State) : Res :=
  onFrame s p fun q => .next (s.report (.verdict (s.params.policy.apply (q.routeKey s.localId))))

/-- RELAY (R207): the block chooses the arm from the frame (R214). -/
def execRelay (p : PortId) (ch : ChanId) (s : State) : Res :=
  onChan s ch (onFrame s p fun q =>
    if q.isEnumFrame s.params.codes then relayRewriteArm s ch q else relayPassArm s ch q)

/-- RELAY_PASS (R208). Of an enumeration frame it is not an operation the host can request (R214). -/
def execRelayPass (p : PortId) (ch : ChanId) (s : State) : Res :=
  onChan s ch (onFrame s p fun q =>
    if q.isEnumFrame s.params.codes then .refused .armNotRequestable else relayPassArm s ch q)

/-- RELAY_REWRITE (R211). Of any other frame it is not an operation the host can request (R214). -/
def execRelayRewrite (p : PortId) (ch : ChanId) (s : State) : Res :=
  onChan s ch (onFrame s p fun q =>
    if q.isEnumFrame s.params.codes then relayRewriteArm s ch q else .refused .armNotRequestable)

end Sys2Proof.Machine
end

