-- ==== Sys2Proof/Machine/RxFramer.lean ====
section
/-! DEFINITION. The receive framer (40_rx_framer): one definition per byte-step row, and the step function `rx_step`
of R16 as the transition table of R120 gives it. -/

namespace Sys2Proof.Machine

/-- IDLE_SYNC (R121). -/
def execIdleSync (p : PortId) (s : State) : Res :=
  byteRule s p .consumed (fun q => q.state == .idle) fun q => { q with state := .frameStart }

/-- IDLE_REJECT (R122): nothing is written. -/
def execIdleReject (p : PortId) (b : Byte) (s : State) : Res :=
  byteRule s p .rejected (fun q => q.state == .idle && b != Config.sync0) id

/-- START_M (R123). -/
def execStartM (p : PortId) (s : State) : Res :=
  byteRule s p .consumed (fun q => q.state == .frameStart) fun q => { q with state := .headerM }

/-- START_RESYNC (R124): framing failure "bad sync bytes" (R283). -/
def execStartResync (p : PortId) (b : Byte) (s : State) : Res :=
  byteRule s p .resync (fun q => q.state == .frameStart && b != Config.sync1) Port.fail

/-- M_DIR.ACTION (R125): the direction byte `<` is recorded. -/
def execMDirAction (p : PortId) (s : State) : Res :=
  byteRule s p .consumed (fun q => q.state == .headerM) fun q =>
    { q with dir := Config.dirAction, state := .headerArrow }

/-- M_DIR.QUERY (R125): the direction byte `>` is recorded. -/
def execMDirQuery (p : PortId) (s : State) : Res :=
  byteRule s p .consumed (fun q => q.state == .headerM) fun q =>
    { q with dir := Config.dirQuery, state := .headerArrow }

/-- M_RESYNC (R126): framing failure "bad sync bytes" (R283); `dir` is not written. -/
def execMResync (p : PortId) (b : Byte) (s : State) : Res :=
  byteRule s p .resync (fun q => q.state == .headerM && b != Config.dirAction && b != Config.dirQuery) Port.fail

/-- ARROW_ID (R127). -/
def execArrowId (p : PortId) (b : Byte) (s : State) : Res :=
  byteRule s p .consumed (fun q => q.state == .headerArrow) fun q =>
    { q with targetId := b, state := .headerDeviceId }

/-- ID_LEN_OK (R128). -/
def execIdLenOk (p : PortId) (b : Byte) (s : State) : Res :=
  byteRule s p .consumed (fun q => q.state == .headerDeviceId && lenOk b) fun q =>
    { q with len := b, cksum := b, wr := 0, rd := 0, state := .headerSize }

/-- ID_LEN_REJECT (R129): framing failure "oversize length" (R284). -/
def execIdLenReject (p : PortId) (b : Byte) (s : State) : Res :=
  byteRule s p .lengthReject (fun q => q.state == .headerDeviceId && !lenOk b) Port.fail

/-- SIZE_CMD (R130). -/
def execSizeCmd (p : PortId) (b : Byte) (s : State) : Res :=
  byteRule s p .consumed (fun q => q.state == .headerSize) fun q =>
    { q with cksum := q.cksum ^^^ b, cmd := b, state := .headerCmd }

/-- CMD_PAYLOAD (R131). -/
def execCmdPayload (p : PortId) (b : Byte) (s : State) : Res :=
  onPort s p fun q =>
    if q.state == .headerCmd && decide (q.wr.toNat < q.len.toNat) then
      match bufWrite q q.wr.toNat b with
      | .ok q' =>
        .next ((s.putPort p { q' with cksum := q.cksum ^^^ b, wr := q.wr + 1 }).report (.event p .consumed))
      | .error f => .fault f
    else .refused .ruleNotSelected

/-- CMD_TRAILER_OK (R132): the frame is complete. The cursor has reached the length as soon as `wr < len` fails
(decision D35). -/
def execCmdTrailerOk (p : PortId) (b : Byte) (s : State) : Res :=
  byteRule s p .frameDone
    (fun q => q.state == .headerCmd && !decide (q.wr.toNat < q.len.toNat) && q.cksumMatch b) Port.complete

/-- CMD_TRAILER_BAD (R133): framing failure "checksum mismatch" (R285). -/
def execCmdTrailerBad (p : PortId) (b : Byte) (s : State) : Res :=
  byteRule s p .checksumDiscard
    (fun q => q.state == .headerCmd && !decide (q.wr.toNat < q.len.toNat) && !q.cksumMatch b) Port.fail

/-- DONE_DROP (R134): the byte is lost, nothing is written. -/
def execDoneDrop (p : PortId) (_b : Byte) (s : State) : Res :=
  byteRule s p .dropped (fun q => q.state == .commandReceived) id

/-- `rx_step(p, b) = (p', e)` (R16, R120): the transition table, read as one function. -/
def rxStep (q : Port) (b : Byte) : Except Fault (Port × Event) :=
  match q.state with
  | .idle => if b = Config.sync0 then .ok ({ q with state := .frameStart }, .consumed) else .ok (q, .rejected)
  | .frameStart =>
    if b = Config.sync1 then .ok ({ q with state := .headerM }, .consumed) else .ok (q.fail, .resync)
  | .headerM =>
    if b = Config.dirAction ∨ b = Config.dirQuery then .ok ({ q with dir := b, state := .headerArrow }, .consumed)
    else .ok (q.fail, .resync)
  | .headerArrow => .ok ({ q with targetId := b, state := .headerDeviceId }, .consumed)
  | .headerDeviceId =>
    if lenOk b then .ok ({ q with len := b, cksum := b, wr := 0, rd := 0, state := .headerSize }, .consumed)
    else .ok (q.fail, .lengthReject)
  | .headerSize => .ok ({ q with cksum := q.cksum ^^^ b, cmd := b, state := .headerCmd }, .consumed)
  | .headerCmd =>
    if q.wr.toNat < q.len.toNat then
      match bufWrite q q.wr.toNat b with
      | .ok q' => .ok ({ q' with cksum := q.cksum ^^^ b, wr := q.wr + 1 }, .consumed)
      | .error f => .error f
    else if q.cksumMatch b then .ok (q.complete, .frameDone)
    else .ok (q.fail, .checksumDiscard)
  | .commandReceived => .ok (q, .dropped)

/-- The bytes of a receive stream, fed to a port in arrival order: the port after them and the events (R77, R120). -/
def rxFeed (q : Port) : List Byte → Except Fault (Port × List Event)
  | [] => .ok (q, [])
  | b :: bs =>
    match rxStep q b with
    | .error f => .error f
    | .ok (q', e) =>
      match rxFeed q' bs with
      | .error f => .error f
      | .ok (q'', es) => .ok (q'', e :: es)

end Sys2Proof.Machine
end

