-- ==== Sys2Proof/Machine/TxFramer.lean ====
section
/-! DEFINITION. The transmit framer (42_tx_framer). -/

namespace Sys2Proof.Machine

/-- TX_REPLY (R183): refused with ReplyTooLong above 64 payload bytes. -/
def execTxReply (ch : ChanId) (c : Byte) (payload : List Byte) (s : State) : Res :=
  onChan s ch (if payload.length ≤ Config.bufCap then .next (s.reply ch c payload)
    else .next (s.refuse .replyTooLong))

/-- TX_ERROR (R184). -/
def execTxError (ch : ChanId) (c : Byte) (s : State) : Res := onChan s ch (.next (s.replyError ch c))

end Sys2Proof.Machine
end

