-- ==== Sys2Proof/Machine/Dispatch.lean ====
section
/-! DEFINITION. The meaning of each operation: one arm per row of spec/opcode_table.json. -/

namespace Sys2Proof.Machine

def exec (i : Instr) (s : State) : Host.Outcome State Fault Refusal :=
  match i with
  -- byte steps of the receive framer
  | .idleSync p => Sys2Proof.Machine.execIdleSync p s
  | .idleReject p b => Sys2Proof.Machine.execIdleReject p b s
  | .startM p => Sys2Proof.Machine.execStartM p s
  | .startResync p b => Sys2Proof.Machine.execStartResync p b s
  | .mDirAction p => Sys2Proof.Machine.execMDirAction p s
  | .mDirQuery p => Sys2Proof.Machine.execMDirQuery p s
  | .mResync p b => Sys2Proof.Machine.execMResync p b s
  | .arrowId p b => Sys2Proof.Machine.execArrowId p b s
  | .idLenOk p b => Sys2Proof.Machine.execIdLenOk p b s
  | .idLenReject p b => Sys2Proof.Machine.execIdLenReject p b s
  | .sizeCmd p b => Sys2Proof.Machine.execSizeCmd p b s
  | .cmdPayload p b => Sys2Proof.Machine.execCmdPayload p b s
  | .cmdTrailerOk p b => Sys2Proof.Machine.execCmdTrailerOk p b s
  | .cmdTrailerBad p b => Sys2Proof.Machine.execCmdTrailerBad p b s
  | .doneDrop p b => Sys2Proof.Machine.execDoneDrop p b s
  -- control operations
  | .frameView p => Sys2Proof.Machine.execFrameView p s
  | .portRelease p => Sys2Proof.Machine.execPortRelease p s
  | .hostRead8 p => Sys2Proof.Machine.execHostRead8 p s
  | .hostRead16 p => Sys2Proof.Machine.execHostRead16 p s
  | .hostRead32 p => Sys2Proof.Machine.execHostRead32 p s
  | .setLocalId v => Sys2Proof.Machine.execSetLocalId v s
  | .getLocalId => Sys2Proof.Machine.execGetLocalId s
  | .txReply ch c payload => Sys2Proof.Machine.execTxReply ch c payload s
  | .txError ch c => Sys2Proof.Machine.execTxError ch c s
  | .route p => Sys2Proof.Machine.execRoute p s
  | .relay p ch => Sys2Proof.Machine.execRelay p ch s
  | .relayPass p ch => Sys2Proof.Machine.execRelayPass p ch s
  | .relayRewrite p ch => Sys2Proof.Machine.execRelayRewrite p ch s
  | .reset => Sys2Proof.Machine.execReset s
  -- queries
  | .queryVersion p ch => Sys2Proof.Machine.execQueryVersion p ch s
  | .queryDeviceId p ch => Sys2Proof.Machine.execQueryDeviceId p ch s
  | .queryStatus p ch => Sys2Proof.Machine.execQueryStatus p ch s
  | .queryChannel p ch => Sys2Proof.Machine.execQueryChannel p ch s
  | .queryRssi p ch => Sys2Proof.Machine.execQueryRssi p ch s
  | .queryRssiThreshold p ch => Sys2Proof.Machine.execQueryRssiThreshold p ch s
  | .queryRssiFilter p ch => Sys2Proof.Machine.execQueryRssiFilter p ch s
  | .queryLapMax p ch => Sys2Proof.Machine.execQueryLapMax p ch s
  | .queryLapMinTime p ch => Sys2Proof.Machine.execQueryLapMinTime p ch s
  | .queryLastLap p ch => Sys2Proof.Machine.execQueryLastLap p ch s
  | .querySelectedLap p ch => Sys2Proof.Machine.execQuerySelectedLap p ch s
  | .queryDebug p ch => Sys2Proof.Machine.execQueryDebug p ch s
  -- actions
  | .actionReset p ch => Sys2Proof.Machine.execActionReset p ch s
  | .actionCalibrate p ch => Sys2Proof.Machine.execActionCalibrate p ch s
  | .actionStart p ch => Sys2Proof.Machine.execActionStart p ch s
  | .actionActivate p ch => Sys2Proof.Machine.execActionActivate p ch s
  | .actionDeactivate p ch => Sys2Proof.Machine.execActionDeactivate p ch s
  | .actionSetDeviceId p ch => Sys2Proof.Machine.execActionSetDeviceId p ch s
  | .actionSelectLap p ch => Sys2Proof.Machine.execActionSelectLap p ch s
  | .actionSetChannel p ch => Sys2Proof.Machine.execActionSetChannel p ch s
  | .actionSetRssiThreshold p ch => Sys2Proof.Machine.execActionSetRssiThreshold p ch s
  | .actionSetRssiFilter p ch => Sys2Proof.Machine.execActionSetRssiFilter p ch s
  | .actionSetLapMinTime p ch => Sys2Proof.Machine.execActionSetLapMinTime p ch s
  | .actionSetLapMax p ch => Sys2Proof.Machine.execActionSetLapMax p ch s
  | .actionSetDebug p ch => Sys2Proof.Machine.execActionSetDebug p ch s
  | .actionPersist p ch => Sys2Proof.Machine.execActionPersist p ch s
  | .unknownCommand p ch => Sys2Proof.Machine.execUnknownCommand p ch s

end Sys2Proof.Machine
end

