-- ==== Sys2Proof/Machine/Step.lean ====
section
/-! DEFINITION. One step of the device: the next input is taken and performed (log 1). -/

namespace Sys2Proof.Machine

/-- One step. With no input the block is still (R303); a change of the collaborator's measured data and a call of its
device-state setter (R267) land between two operations (logs 20, 33); any other input is decoded, consumed (R81) and its operation performed, or refused where the
decoder rejects it (log 12). -/
def step (s : State) : Host.Outcome State Fault Refusal :=
  match s.pending with
  | [] => .next s
  | .measure m :: rest => .next ({ s with pending := rest }.measure m)
  | .setDeviceState v :: rest => .next ({ s with pending := rest }.setDeviceState v)
  | i :: rest =>
    match decode s.env i with
    | .ok instr => exec instr { s with pending := rest }
    | .error r => .refused (.undecodable r)

/-- `s` with the table word's byte as its next input (log 3). -/
def State.withFetchWord (s : State) (_nbits w : Nat) : State := s.present (tableByte w)

end Sys2Proof.Machine
end

