-- ==== Sys2Proof/Safety.lean ====
section
/-! DEFINITION. What claims are stated in: the invariants of 10_state section 6, the frames of an operation (R37), and
runs without a refusal (R290). -/

namespace Sys2Proof.Machine

/-- The first `n` bytes of a buffer, `buf[0..n)`, where all of them have a value. -/
def cellsUpTo (m : List Host.Cell) : Nat → Option (List Byte)
  | 0 => some []
  | n + 1 =>
    match cellsUpTo m n, Memory.read m n with
    | some bs, some b => some (bs ++ [b])
    | _, _ => none

/-- The checksum relation of R43 over the payload bytes stored so far, all of which have a value (R44). -/
abbrev Port.CksumOk (q : Port) : Prop :=
  (cellsUpTo q.buf q.wr.toNat).map (checksum q.len q.cmd) = some q.cksum

/-- The invariants of a port: the direction (R23), the length bound (R40), the cursor bounds (R42), the checksum
relation (R43) with the cells it reads written (R44), and the buffer's canonical form (log 5). -/
abbrev Port.Inv (q : Port) : Prop :=
  Memory.wf q.buf = true ∧
  (q.state ∈ [.headerArrow, .headerDeviceId, .headerSize, .headerCmd, .commandReceived] →
    q.dir = Config.dirAction ∨ q.dir = Config.dirQuery) ∧
  (q.state ∈ [.headerSize, .headerCmd, .commandReceived] →
    q.len.toNat ≤ Config.bufCap ∧ q.wr.toNat ≤ q.len.toNat ∧ q.rd.toNat ≤ q.len.toNat) ∧
  (q.state = .headerSize → q.wr = 0 ∧ q.cksum = q.len) ∧
  (q.state ∈ [.headerSize, .headerCmd] → q.rd = 0) ∧
  (q.state = .commandReceived → q.wr.toNat = q.len.toNat) ∧
  (q.state ∈ [.headerCmd, .commandReceived] → q.CksumOk)

/-- The bounds of the collaborator's contract (R267, R248). -/
abbrev CollabInv (c : Collab) : Prop :=
  c.measured.laps.length ≤ Config.maxLapsLimit ∧ c.settings.lapMax.toNat ≤ Config.maxLapsLimit

/-- The invariant of the device: every port's, at least one port, a channel for each port (log 11), admissible
parameters, a bounded collaborator. -/
abbrev State.Inv (s : State) : Prop :=
  (∀ q ∈ s.ports, q.Inv) ∧ 1 ≤ s.ports.length ∧ s.tx.length = s.ports.length ∧ s.params.Admissible ∧ CollabInv s.collab

/-- No operation has been refused so far: the premise R290 recommends. -/
abbrev State.Clean (s : State) : Prop := s.refusalSeen = false

/-- Port `p` is `q` and holds a completed frame (R32). -/
abbrev State.Holds (s : State) (p : PortId) (q : Port) : Prop := s.ports[p]? = some q ∧ q.state = .commandReceived

/-- The cells from `i` on read as the bytes listed, and lie within the buffer. -/
abbrev Port.Cells (q : Port) (i : Nat) (bs : List Byte) : Prop :=
  i + bs.length ≤ Config.bufCap ∧ ∀ j, j < bs.length → Memory.read q.buf (i + j) = bs[j]?

/-- Port `p` is `q` and holds a completed frame whose code is `k`, and the reply's channel exists: where a command of
the dispatcher runs (R233). -/
abbrev State.Serves (s : State) (p : PortId) (ch : ChanId) (q : Port) (k : Byte) : Prop :=
  s.Holds p q ∧ ch < s.tx.length ∧ q.cmd = k

/-- The frame port `q` holds has the payload `pl`, every byte of it written (R44, R160). -/
abbrev Port.Carries (q : Port) (pl : List Byte) : Prop := pl.length = q.len.toNat ∧ q.Cells 0 pl

/-- The next operand of an action is `bs`: that many bytes are left, and these are their values (R240). -/
abbrev Port.Operand (q : Port) (bs : List Byte) : Prop :=
  q.rd.toNat + bs.length ≤ q.len.toNat ∧ q.Cells q.rd.toNat bs

/-- `n` steps, stopping at the first fault or refusal. -/
def steps : Nat → State → Res
  | 0, s => .next s
  | n + 1, s =>
    match step s with
    | .next t => steps n t
    | r => r

/-- One device of a chain handles one frame (R161, R219): the frame's bytes arrive at port `p`, the frame is
dispatched with its reply on `ch`, relayed on `rc`, and released. -/
def hop (p : PortId) (ch rc : ChanId) (frame : List Byte) (s : State) : Res :=
  steps (frame.length + 3)
    { s with
      pending :=
        frame.map (.byte p) ++
          [.dispatch p ch, .request { op := .relay, port := p, chan := rc },
            .request { op := .portRelease, port := p }] }

/-- The two states agree on everything but port `p`'s fields and the reported output: the frame of a byte step (R20,
R140) and of a host read or release (R37). -/
abbrev SameButPort (p : PortId) (s t : State) : Prop :=
  t.ports.length = s.ports.length ∧ (∀ j, j ≠ p → t.ports[j]? = s.ports[j]?) ∧
  t.localId = s.localId ∧ t.tx = s.tx ∧ t.collab = s.collab ∧ t.selection = s.selection ∧ t.triggers = s.triggers ∧
  t.pending = s.pending ∧ t.params = s.params ∧ t.refusalSeen = s.refusalSeen ∧ t.fresh = s.fresh

/-- The two states agree on everything but what is emitted on channel `ch`, to which `bytes` is appended, and the
reported output: the frame of an operation that "writes no state of the block and only emits" (R37). -/
abbrev OnlyEmits (ch : ChanId) (bytes : List Byte) (s t : State) : Prop :=
  t.tx.length = s.tx.length ∧ t.tx[ch]? = (s.tx[ch]?).map (· ++ bytes) ∧ (∀ j, j ≠ ch → t.tx[j]? = s.tx[j]?) ∧
  t.ports = s.ports ∧ t.localId = s.localId ∧ t.collab = s.collab ∧ t.selection = s.selection ∧
  t.triggers = s.triggers ∧ t.pending = s.pending ∧ t.params = s.params ∧ t.refusalSeen = s.refusalSeen ∧
  t.fresh = s.fresh

/-- The two states agree on everything but the reported output and the sticky mark: what a refusal leaves (R290). -/
abbrev SameButReport (s t : State) : Prop :=
  t.ports = s.ports ∧ t.localId = s.localId ∧ t.tx = s.tx ∧ t.collab = s.collab ∧ t.selection = s.selection ∧
  t.triggers = s.triggers ∧ t.pending = s.pending ∧ t.params = s.params ∧ t.fresh = s.fresh

end Sys2Proof.Machine
end

