-- ==== Sys2Proof/Laws/State.lean ====
section
/-! SUPPORT. One lemma per field per update of State: what the update leaves in the field. -/

namespace Sys2Proof.Machine

variable (s : State)

/-! ### `State.putPort` -/

@[simp] theorem State.putPort_ports (p : PortId) (q : Port) : (s.putPort p q).ports = s.ports.set p q := rfl
@[simp] theorem State.putPort_localId (p : PortId) (q : Port) : (s.putPort p q).localId = s.localId := rfl
@[simp] theorem State.putPort_tx (p : PortId) (q : Port) : (s.putPort p q).tx = s.tx := rfl
@[simp] theorem State.putPort_collab (p : PortId) (q : Port) : (s.putPort p q).collab = s.collab := rfl
@[simp] theorem State.putPort_selection (p : PortId) (q : Port) : (s.putPort p q).selection = s.selection := rfl
@[simp] theorem State.putPort_triggers (p : PortId) (q : Port) : (s.putPort p q).triggers = s.triggers := rfl
@[simp] theorem State.putPort_pending (p : PortId) (q : Port) : (s.putPort p q).pending = s.pending := rfl
@[simp] theorem State.putPort_params (p : PortId) (q : Port) : (s.putPort p q).params = s.params := rfl
@[simp] theorem State.putPort_out (p : PortId) (q : Port) : (s.putPort p q).out = s.out := rfl
@[simp] theorem State.putPort_refusalSeen (p : PortId) (q : Port) : (s.putPort p q).refusalSeen = s.refusalSeen := rfl
@[simp] theorem State.putPort_fresh (p : PortId) (q : Port) : (s.putPort p q).fresh = s.fresh := rfl

/-! ### `State.report` -/

@[simp] theorem State.report_ports (o : Output) : (s.report o).ports = s.ports := rfl
@[simp] theorem State.report_localId (o : Output) : (s.report o).localId = s.localId := rfl
@[simp] theorem State.report_tx (o : Output) : (s.report o).tx = s.tx := rfl
@[simp] theorem State.report_collab (o : Output) : (s.report o).collab = s.collab := rfl
@[simp] theorem State.report_selection (o : Output) : (s.report o).selection = s.selection := rfl
@[simp] theorem State.report_triggers (o : Output) : (s.report o).triggers = s.triggers := rfl
@[simp] theorem State.report_pending (o : Output) : (s.report o).pending = s.pending := rfl
@[simp] theorem State.report_params (o : Output) : (s.report o).params = s.params := rfl
@[simp] theorem State.report_out (o : Output) : (s.report o).out = o := rfl
@[simp] theorem State.report_refusalSeen (o : Output) : (s.report o).refusalSeen = s.refusalSeen := rfl
@[simp] theorem State.report_fresh (o : Output) : (s.report o).fresh = s.fresh := rfl

/-! ### `State.refuse` -/

@[simp] theorem State.refuse_ports (r : Reason) : (s.refuse r).ports = s.ports := rfl
@[simp] theorem State.refuse_localId (r : Reason) : (s.refuse r).localId = s.localId := rfl
@[simp] theorem State.refuse_tx (r : Reason) : (s.refuse r).tx = s.tx := rfl
@[simp] theorem State.refuse_collab (r : Reason) : (s.refuse r).collab = s.collab := rfl
@[simp] theorem State.refuse_selection (r : Reason) : (s.refuse r).selection = s.selection := rfl
@[simp] theorem State.refuse_triggers (r : Reason) : (s.refuse r).triggers = s.triggers := rfl
@[simp] theorem State.refuse_pending (r : Reason) : (s.refuse r).pending = s.pending := rfl
@[simp] theorem State.refuse_params (r : Reason) : (s.refuse r).params = s.params := rfl
@[simp] theorem State.refuse_out (r : Reason) : (s.refuse r).out = .refused r := rfl
@[simp] theorem State.refuse_refusalSeen (r : Reason) : (s.refuse r).refusalSeen = true := rfl
@[simp] theorem State.refuse_fresh (r : Reason) : (s.refuse r).fresh = s.fresh := rfl

/-! ### `State.emit` -/

@[simp] theorem State.emit_ports (ch : ChanId) (bs : List Byte) : (s.emit ch bs).ports = s.ports := rfl
@[simp] theorem State.emit_localId (ch : ChanId) (bs : List Byte) : (s.emit ch bs).localId = s.localId := rfl
@[simp] theorem State.emit_tx (ch : ChanId) (bs : List Byte) : (s.emit ch bs).tx = s.tx.modify ch (· ++ bs) := rfl
@[simp] theorem State.emit_collab (ch : ChanId) (bs : List Byte) : (s.emit ch bs).collab = s.collab := rfl
@[simp] theorem State.emit_selection (ch : ChanId) (bs : List Byte) : (s.emit ch bs).selection = s.selection := rfl
@[simp] theorem State.emit_triggers (ch : ChanId) (bs : List Byte) : (s.emit ch bs).triggers = s.triggers := rfl
@[simp] theorem State.emit_pending (ch : ChanId) (bs : List Byte) : (s.emit ch bs).pending = s.pending := rfl
@[simp] theorem State.emit_params (ch : ChanId) (bs : List Byte) : (s.emit ch bs).params = s.params := rfl
@[simp] theorem State.emit_out (ch : ChanId) (bs : List Byte) : (s.emit ch bs).out = s.out := rfl
@[simp] theorem State.emit_refusalSeen (ch : ChanId) (bs : List Byte) : (s.emit ch bs).refusalSeen = s.refusalSeen := rfl
@[simp] theorem State.emit_fresh (ch : ChanId) (bs : List Byte) : (s.emit ch bs).fresh = s.fresh := rfl

/-! ### `State.resetBlock` -/

@[simp] theorem State.resetBlock_ports : s.resetBlock.ports = s.ports.map fun q : Port => { q with state := .idle } := rfl
@[simp] theorem State.resetBlock_localId : s.resetBlock.localId = Config.localIdReset := rfl
@[simp] theorem State.resetBlock_tx : s.resetBlock.tx = List.replicate s.tx.length [] := rfl
@[simp] theorem State.resetBlock_collab : s.resetBlock.collab = s.collab := rfl
@[simp] theorem State.resetBlock_selection : s.resetBlock.selection = s.selection := rfl
@[simp] theorem State.resetBlock_triggers : s.resetBlock.triggers = s.triggers := rfl
@[simp] theorem State.resetBlock_pending : s.resetBlock.pending = s.pending := rfl
@[simp] theorem State.resetBlock_params : s.resetBlock.params = s.params := rfl
@[simp] theorem State.resetBlock_out : s.resetBlock.out = s.out := rfl
@[simp] theorem State.resetBlock_refusalSeen : s.resetBlock.refusalSeen = s.refusalSeen := rfl
@[simp] theorem State.resetBlock_fresh : s.resetBlock.fresh = s.fresh := rfl

/-! ### `State.raise` -/

@[simp] theorem State.raise_ports (t : Trigger) : (s.raise t).ports = s.ports := rfl
@[simp] theorem State.raise_localId (t : Trigger) : (s.raise t).localId = s.localId := rfl
@[simp] theorem State.raise_tx (t : Trigger) : (s.raise t).tx = s.tx := rfl
@[simp] theorem State.raise_collab (t : Trigger) : (s.raise t).collab = collabAfter s.collab s.fresh t := rfl
@[simp] theorem State.raise_selection (t : Trigger) : (s.raise t).selection = s.selection := rfl
@[simp] theorem State.raise_triggers (t : Trigger) : (s.raise t).triggers = s.triggers ++ [t] := rfl
@[simp] theorem State.raise_pending (t : Trigger) : (s.raise t).pending = s.pending := rfl
@[simp] theorem State.raise_params (t : Trigger) : (s.raise t).params = s.params := rfl
@[simp] theorem State.raise_out (t : Trigger) : (s.raise t).out = s.out := rfl
@[simp] theorem State.raise_refusalSeen (t : Trigger) : (s.raise t).refusalSeen = s.refusalSeen := rfl
@[simp] theorem State.raise_fresh (t : Trigger) : (s.raise t).fresh = s.fresh + 1 := rfl

/-! ### `State.set` -/

@[simp] theorem State.set_ports (f : Settings → Settings) : (s.set f).ports = s.ports := rfl
@[simp] theorem State.set_localId (f : Settings → Settings) : (s.set f).localId = s.localId := rfl
@[simp] theorem State.set_tx (f : Settings → Settings) : (s.set f).tx = s.tx := rfl
@[simp] theorem State.set_collab (f : Settings → Settings) : (s.set f).collab = { s.collab with settings := f s.collab.settings } := rfl
@[simp] theorem State.set_selection (f : Settings → Settings) : (s.set f).selection = s.selection := rfl
@[simp] theorem State.set_triggers (f : Settings → Settings) : (s.set f).triggers = s.triggers := rfl
@[simp] theorem State.set_pending (f : Settings → Settings) : (s.set f).pending = s.pending := rfl
@[simp] theorem State.set_params (f : Settings → Settings) : (s.set f).params = s.params := rfl
@[simp] theorem State.set_out (f : Settings → Settings) : (s.set f).out = s.out := rfl
@[simp] theorem State.set_refusalSeen (f : Settings → Settings) : (s.set f).refusalSeen = s.refusalSeen := rfl
@[simp] theorem State.set_fresh (f : Settings → Settings) : (s.set f).fresh = s.fresh := rfl

/-! ### `State.measure` -/

@[simp] theorem State.measure_ports (m : Measured) : (s.measure m).ports = s.ports := rfl
@[simp] theorem State.measure_localId (m : Measured) : (s.measure m).localId = s.localId := rfl
@[simp] theorem State.measure_tx (m : Measured) : (s.measure m).tx = s.tx := rfl
@[simp] theorem State.measure_collab (m : Measured) : (s.measure m).collab = { s.collab with measured := boundMeasured m } := rfl
@[simp] theorem State.measure_selection (m : Measured) : (s.measure m).selection = s.selection := rfl
@[simp] theorem State.measure_triggers (m : Measured) : (s.measure m).triggers = s.triggers := rfl
@[simp] theorem State.measure_pending (m : Measured) : (s.measure m).pending = s.pending := rfl
@[simp] theorem State.measure_params (m : Measured) : (s.measure m).params = s.params := rfl
@[simp] theorem State.measure_out (m : Measured) : (s.measure m).out = s.out := rfl
@[simp] theorem State.measure_refusalSeen (m : Measured) : (s.measure m).refusalSeen = s.refusalSeen := rfl
@[simp] theorem State.measure_fresh (m : Measured) : (s.measure m).fresh = s.fresh := rfl

/-! ### `State.setDeviceState` -/

@[simp] theorem State.setDeviceState_ports (v : Byte) : (s.setDeviceState v).ports = s.ports := rfl
@[simp] theorem State.setDeviceState_localId (v : Byte) : (s.setDeviceState v).localId = s.localId := rfl
@[simp] theorem State.setDeviceState_tx (v : Byte) : (s.setDeviceState v).tx = s.tx := rfl
@[simp] theorem State.setDeviceState_collab (v : Byte) :
    (s.setDeviceState v).collab = { s.collab with measured := { s.collab.measured with deviceState := v } } := rfl
@[simp] theorem State.setDeviceState_selection (v : Byte) : (s.setDeviceState v).selection = s.selection := rfl
@[simp] theorem State.setDeviceState_triggers (v : Byte) : (s.setDeviceState v).triggers = s.triggers := rfl
@[simp] theorem State.setDeviceState_pending (v : Byte) : (s.setDeviceState v).pending = s.pending := rfl
@[simp] theorem State.setDeviceState_params (v : Byte) : (s.setDeviceState v).params = s.params := rfl
@[simp] theorem State.setDeviceState_out (v : Byte) : (s.setDeviceState v).out = s.out := rfl
@[simp] theorem State.setDeviceState_refusalSeen (v : Byte) : (s.setDeviceState v).refusalSeen = s.refusalSeen := rfl
@[simp] theorem State.setDeviceState_fresh (v : Byte) : (s.setDeviceState v).fresh = s.fresh := rfl

/-! ### `State.reply` -/

@[simp] theorem State.reply_ports (ch : ChanId) (c : Byte) (pl : List Byte) : (s.reply ch c pl).ports = s.ports := rfl
@[simp] theorem State.reply_localId (ch : ChanId) (c : Byte) (pl : List Byte) : (s.reply ch c pl).localId = s.localId := rfl
@[simp] theorem State.reply_tx (ch : ChanId) (c : Byte) (pl : List Byte) : (s.reply ch c pl).tx = s.tx.modify ch (· ++ replyOk s.localId c pl) := rfl
@[simp] theorem State.reply_collab (ch : ChanId) (c : Byte) (pl : List Byte) : (s.reply ch c pl).collab = s.collab := rfl
@[simp] theorem State.reply_selection (ch : ChanId) (c : Byte) (pl : List Byte) : (s.reply ch c pl).selection = s.selection := rfl
@[simp] theorem State.reply_triggers (ch : ChanId) (c : Byte) (pl : List Byte) : (s.reply ch c pl).triggers = s.triggers := rfl
@[simp] theorem State.reply_pending (ch : ChanId) (c : Byte) (pl : List Byte) : (s.reply ch c pl).pending = s.pending := rfl
@[simp] theorem State.reply_params (ch : ChanId) (c : Byte) (pl : List Byte) : (s.reply ch c pl).params = s.params := rfl
@[simp] theorem State.reply_out (ch : ChanId) (c : Byte) (pl : List Byte) : (s.reply ch c pl).out = .done := rfl
@[simp] theorem State.reply_refusalSeen (ch : ChanId) (c : Byte) (pl : List Byte) : (s.reply ch c pl).refusalSeen = s.refusalSeen := rfl
@[simp] theorem State.reply_fresh (ch : ChanId) (c : Byte) (pl : List Byte) : (s.reply ch c pl).fresh = s.fresh := rfl

/-! ### `State.replyError` -/

@[simp] theorem State.replyError_ports (ch : ChanId) (c : Byte) : (s.replyError ch c).ports = s.ports := rfl
@[simp] theorem State.replyError_localId (ch : ChanId) (c : Byte) : (s.replyError ch c).localId = s.localId := rfl
@[simp] theorem State.replyError_tx (ch : ChanId) (c : Byte) : (s.replyError ch c).tx = s.tx.modify ch (· ++ replyErr s.params.dirError s.localId c) := rfl
@[simp] theorem State.replyError_collab (ch : ChanId) (c : Byte) : (s.replyError ch c).collab = s.collab := rfl
@[simp] theorem State.replyError_selection (ch : ChanId) (c : Byte) : (s.replyError ch c).selection = s.selection := rfl
@[simp] theorem State.replyError_triggers (ch : ChanId) (c : Byte) : (s.replyError ch c).triggers = s.triggers := rfl
@[simp] theorem State.replyError_pending (ch : ChanId) (c : Byte) : (s.replyError ch c).pending = s.pending := rfl
@[simp] theorem State.replyError_params (ch : ChanId) (c : Byte) : (s.replyError ch c).params = s.params := rfl
@[simp] theorem State.replyError_out (ch : ChanId) (c : Byte) : (s.replyError ch c).out = .done := rfl
@[simp] theorem State.replyError_refusalSeen (ch : ChanId) (c : Byte) : (s.replyError ch c).refusalSeen = s.refusalSeen := rfl
@[simp] theorem State.replyError_fresh (ch : ChanId) (c : Byte) : (s.replyError ch c).fresh = s.fresh := rfl

/-! ### `State.present` -/

@[simp] theorem State.present_pending (b : Byte) : (s.present b).pending = .byte 0 b :: s.pending := rfl
@[simp] theorem State.present_localId (b : Byte) : (s.present b).localId = s.localId := rfl
@[simp] theorem State.present_tx (b : Byte) : (s.present b).tx = s.tx := rfl
@[simp] theorem State.present_params (b : Byte) : (s.present b).params = s.params := rfl

/-! ### What the decoder sees -/

@[simp] theorem State.env_ports : s.env.ports = s.ports.map Port.ctx := rfl
@[simp] theorem State.env_nChans : s.env.nChans = s.tx.length := rfl
@[simp] theorem State.env_codes : s.env.codes = s.params.codes := rfl

/-! ### Ports -/

section
variable (q : Port)
@[simp] theorem Port.ctx_state : q.ctx.state = q.state := rfl
@[simp] theorem Port.ctx_wr : q.ctx.wr = q.wr := rfl
@[simp] theorem Port.ctx_len : q.ctx.len = q.len := rfl
@[simp] theorem Port.ctx_cksum : q.ctx.cksum = q.cksum := rfl
@[simp] theorem Port.ctx_cmd : q.ctx.cmd = q.cmd := rfl
@[simp] theorem Port.fail_state : q.fail.state = .idle := rfl
@[simp] theorem Port.fail_dir : q.fail.dir = q.dir := rfl
@[simp] theorem Port.fail_targetId : q.fail.targetId = q.targetId := rfl
@[simp] theorem Port.fail_len : q.fail.len = q.len := rfl
@[simp] theorem Port.fail_cksum : q.fail.cksum = q.cksum := rfl
@[simp] theorem Port.fail_buf : q.fail.buf = q.buf := rfl
@[simp] theorem Port.fail_wr : q.fail.wr = q.wr := rfl
@[simp] theorem Port.fail_rd : q.fail.rd = q.rd := rfl
@[simp] theorem Port.fail_cmd : q.fail.cmd = q.cmd := rfl
@[simp] theorem Port.release_state : q.release.state = .idle := rfl
@[simp] theorem Port.release_dir : q.release.dir = q.dir := rfl
@[simp] theorem Port.release_targetId : q.release.targetId = q.targetId := rfl
@[simp] theorem Port.release_len : q.release.len = q.len := rfl
@[simp] theorem Port.release_cksum : q.release.cksum = q.cksum := rfl
@[simp] theorem Port.release_buf : q.release.buf = q.buf := rfl
@[simp] theorem Port.release_wr : q.release.wr = q.wr := rfl
@[simp] theorem Port.release_rd : q.release.rd = q.rd := rfl
@[simp] theorem Port.release_cmd : q.release.cmd = q.cmd := rfl
@[simp] theorem Port.complete_state : q.complete.state = .commandReceived := rfl
@[simp] theorem Port.complete_dir : q.complete.dir = q.dir := rfl
@[simp] theorem Port.complete_targetId : q.complete.targetId = q.targetId := rfl
@[simp] theorem Port.complete_len : q.complete.len = q.len := rfl
@[simp] theorem Port.complete_cksum : q.complete.cksum = q.cksum := rfl
@[simp] theorem Port.complete_buf : q.complete.buf = q.buf := rfl
@[simp] theorem Port.complete_wr : q.complete.wr = q.wr := rfl
@[simp] theorem Port.complete_rd : q.complete.rd = q.rd := rfl
@[simp] theorem Port.complete_cmd : q.complete.cmd = q.cmd := rfl
end

end Sys2Proof.Machine
end

