-- ==== Sys2Proof/Laws/Ops.lean ====
section
/-! SUPPORT. One lemma for each shared operation, which says once everything it can do. -/

namespace Sys2Proof.Machine

/-! ### The buffer -/

namespace Memory

/-- A cell reads as what was last written to it. -/
theorem read_write_self (m : List Host.Cell) (i : Nat) (v : Byte) : read (write m i v) i = some v := by
  induction m with
  | nil => simp [write, read]
  | cons c m ih =>
    obtain ⟨a, w⟩ := c
    simp only [write]
    split
    · simp [read]
    · split
      · simp [read]
      · simp [read, Ne.symm (by assumption : ¬ i = a), ih]

/-- A write leaves every other cell alone. -/
theorem read_write_of_ne (m : List Host.Cell) {i j : Nat} (v : Byte) (h : j ≠ i) :
    read (write m i v) j = read m j := by
  induction m with
  | nil => simp [write, read, Ne.symm h]
  | cons c m ih =>
    obtain ⟨a, w⟩ := c
    simp only [write]
    split
    · simp [read, Ne.symm h]
    · split
      · subst_vars; simp [read, Ne.symm h]
      · simp only [read, ih]

/-- A write below the capacity keeps the canonical form. -/
theorem wfFrom_write {m : List Host.Cell} {lo i : Nat} (v : Byte) (hm : wfFrom lo m = true) (hlo : lo ≤ i)
    (hi : i < Config.bufCap) : wfFrom lo (write m i v) = true := by
  induction m generalizing lo with
  | nil => simp [write, wfFrom, hlo, hi]
  | cons c m ih =>
    obtain ⟨a, w⟩ := c
    simp only [wfFrom, Bool.and_eq_true, decide_eq_true_eq] at hm
    obtain ⟨⟨h1, h2⟩, h3⟩ := hm
    simp only [write]
    split
    · rename_i hlt
      simp [wfFrom, hlo, hi, h2, h3]; omega
    · split
      · subst_vars; simp [wfFrom, h1, h2, h3]
      · simp only [wfFrom, Bool.and_eq_true, decide_eq_true_eq]
        exact ⟨⟨h1, h2⟩, ih h3 (by omega)⟩

theorem wf_nil : wf [] = true := rfl

theorem wf_write {m : List Host.Cell} {i : Nat} (v : Byte) (hm : wf m = true) (hi : i < Config.bufCap) :
    wf (write m i v) = true := wfFrom_write v hm (Nat.zero_le i) hi

end Memory

theorem bufWrite_ok {q q' : Port} {i : Nat} {v : Byte} (h : bufWrite q i v = .ok q') :
    i < Config.bufCap ∧ q' = { q with buf := Memory.write q.buf i v } := by
  unfold bufWrite at h
  split at h
  · exact ⟨‹_›, by simpa using h.symm⟩
  · cases h

theorem bufWrite_of_lt (q : Port) {i : Nat} (v : Byte) (h : i < Config.bufCap) :
    bufWrite q i v = .ok { q with buf := Memory.write q.buf i v } := by simp [bufWrite, h]

theorem bufRead_ok {q : Port} {i : Nat} {v : Byte} (hi : i < Config.bufCap) (h : Memory.read q.buf i = some v) :
    bufRead q i = .ok v := by simp [bufRead, hi, h]

theorem bufRead_ok_iff {q : Port} {i : Nat} {v : Byte} :
    bufRead q i = .ok v ↔ i < Config.bufCap ∧ Memory.read q.buf i = some v := by
  unfold bufRead
  split
  · cases Memory.read q.buf i <;> simp_all
  · simp_all

/-- Cells that all have a value read as their values, in rising order. -/
theorem bufReads_ok {q : Port} {bs : List Byte} {i : Nat} (h : q.Cells i bs) : bufReads q i bs.length = .ok bs := by
  induction bs generalizing i with
  | nil => rfl
  | cons b bs ih =>
    obtain ⟨hi, h⟩ := h
    simp only [List.length_cons] at hi h
    have h0 : bufRead q i = .ok b := bufRead_ok (by omega) (h 0 (by omega))
    have h1 : bufReads q (i + 1) bs.length = .ok bs := by
      refine ih ⟨by omega, fun j hj => ?_⟩
      have := h (j + 1) (by omega)
      rwa [List.getElem?_cons_succ, ← Nat.add_assoc, Nat.add_right_comm] at this
    simp [bufReads, h0, h1]

/-- What a successful read of `n` cells gives. -/
theorem bufReads_inv {q : Port} {bs : List Byte} {i n : Nat} (hi : i ≤ Config.bufCap) (h : bufReads q i n = .ok bs) :
    bs.length = n ∧ q.Cells i bs := by
  induction n generalizing i bs with
  | zero => simp only [bufReads, Except.ok.injEq] at h; subst h; simpa [Port.Cells] using hi
  | succ n ih =>
    simp only [bufReads] at h
    split at h
    · cases h
    · rename_i b hb
      split at h
      · cases h
      · rename_i cs hc
        cases h
        obtain ⟨hb1, hb2⟩ := bufRead_ok_iff.1 hb
        obtain ⟨hl, hn, hr⟩ := ih (by omega) hc
        refine ⟨by simp [hl], by simp only [List.length_cons]; omega, fun j hj => ?_⟩
        cases j with
        | zero => simpa using hb2
        | succ j =>
          have := hr j (by simpa using hj)
          rwa [List.getElem?_cons_succ, ← Nat.add_assoc, Nat.add_right_comm]

/-! ### Multi-byte values -/

/-- The value of a 16-bit operand. -/
theorem half_toNat (lo hi : Byte) : (half lo hi).toNat = hi.toNat * 256 + lo.toNat := by
  show (hi ++ lo : BitVec (8 + 8)).toNat = _
  rw [BitVec.toNat_append, ← Nat.shiftLeft_add_eq_or_of_lt lo.isLt, Nat.shiftLeft_eq]

/-- The value of a 32-bit operand. -/
theorem word_toNat (l h : Half) : (word l h).toNat = h.toNat * 65536 + l.toNat := by
  show (h ++ l : BitVec (16 + 16)).toNat = _
  rw [BitVec.toNat_append, ← Nat.shiftLeft_add_eq_or_of_lt l.isLt, Nat.shiftLeft_eq]

/-- Encoding and assembly agree (R67, R232). -/
theorem enc16_half (lo hi : Byte) : enc16 (half lo hi) = [lo, hi] := by
  have h1 : (half lo hi).extractLsb' 0 8 = lo := by
    apply BitVec.eq_of_toNat_eq
    rw [BitVec.extractLsb'_toNat, half_toNat, Nat.shiftRight_eq_div_pow]; omega
  have h2 : (half lo hi).extractLsb' 8 8 = hi := by
    apply BitVec.eq_of_toNat_eq
    rw [BitVec.extractLsb'_toNat, half_toNat, Nat.shiftRight_eq_div_pow]; omega
  rw [enc16, h1, h2]

/-- Encoding and assembly agree (R67, R232). -/
theorem enc32_word (l h : Half) : enc32 (word l h) = enc16 l ++ enc16 h := by
  have h1 : (word l h).extractLsb' 0 16 = l := by
    apply BitVec.eq_of_toNat_eq
    rw [BitVec.extractLsb'_toNat, word_toNat, Nat.shiftRight_eq_div_pow]; omega
  have h2 : (word l h).extractLsb' 16 16 = h := by
    apply BitVec.eq_of_toNat_eq
    rw [BitVec.extractLsb'_toNat, word_toNat, Nat.shiftRight_eq_div_pow]; omega
  rw [enc32, h1, h2]
/-! ### Ports, channels, frames -/

theorem onPort_some {s : State} {p : PortId} {q : Port} (h : s.ports[p]? = some q) (k : Port → Res) :
    onPort s p k = k q := by simp [onPort, h]

theorem onPort_next {s t : State} {p : PortId} {k : Port → Res} (h : onPort s p k = .next t) :
    ∃ q, s.ports[p]? = some q ∧ k q = .next t := by
  unfold onPort at h
  split at h
  · exact ⟨_, ‹_›, h⟩
  · cases h

theorem onPort_fault {s : State} {p : PortId} {k : Port → Res} {f : Fault} (h : onPort s p k = .fault f) :
    ∃ q, s.ports[p]? = some q ∧ k q = .fault f := by
  unfold onPort at h
  split at h
  · exact ⟨_, ‹_›, h⟩
  · cases h

theorem onChan_lt {s : State} {ch : ChanId} (h : ch < s.tx.length) (k : Res) : onChan s ch k = k := by
  simp [onChan, h]

theorem onChan_next {s t : State} {ch : ChanId} {k : Res} (h : onChan s ch k = .next t) :
    ch < s.tx.length ∧ k = .next t := by
  unfold onChan at h
  split at h
  · exact ⟨‹_›, h⟩
  · cases h

theorem onChan_fault {s : State} {ch : ChanId} {k : Res} {f : Fault} (h : onChan s ch k = .fault f) :
    ch < s.tx.length ∧ k = .fault f := by
  unfold onChan at h
  split at h
  · exact ⟨‹_›, h⟩
  · cases h

theorem onFrame_held {s : State} {p : PortId} {q : Port} (h : s.Holds p q) (k : Port → Res) :
    onFrame s p k = k q := by simp [onFrame, onPort, h.1, h.2]

theorem onFrame_none {s : State} {p : PortId} {q : Port} (h : s.ports[p]? = some q)
    (hq : q.state ≠ .commandReceived) (k : Port → Res) : onFrame s p k = .next (s.refuse .noFrame) := by
  simp [onFrame, onPort, h, hq]

/-- A next state of a control operation on a frame: the operation's own, or that of a refusal. -/
theorem onFrame_next {s t : State} {p : PortId} {k : Port → Res} (h : onFrame s p k = .next t) :
    ∃ q, s.ports[p]? = some q ∧
      ((q.state = .commandReceived ∧ k q = .next t) ∨ (q.state ≠ .commandReceived ∧ t = s.refuse .noFrame)) := by
  obtain ⟨q, hq, h⟩ := onPort_next h
  refine ⟨q, hq, ?_⟩
  split at h
  · exact .inl ⟨‹_›, h⟩
  · cases h; exact .inr ⟨‹_›, rfl⟩

theorem onFrame_fault {s : State} {p : PortId} {k : Port → Res} {f : Fault} (h : onFrame s p k = .fault f) :
    ∃ q, s.Holds p q ∧ k q = .fault f := by
  obtain ⟨q, hq, h⟩ := onPort_fault h
  split at h
  · exact ⟨q, ⟨hq, ‹_›⟩, h⟩
  · cases h

/-- A next state of a byte-step rule. -/
theorem byteRule_next {s t : State} {p : PortId} {e : Event} {g : Port → Bool} {u : Port → Port}
    (h : byteRule s p e g u = .next t) :
    ∃ q, s.ports[p]? = some q ∧ g q = true ∧ t = (s.putPort p (u q)).report (.event p e) := by
  obtain ⟨q, hq, h⟩ := onPort_next h
  split at h
  · cases h; exact ⟨q, hq, ‹_›, rfl⟩
  · cases h

theorem byteRule_applies {s : State} {p : PortId} {q : Port} (h : s.ports[p]? = some q) {e : Event}
    {g : Port → Bool} (hg : g q = true) (u : Port → Port) :
    byteRule s p e g u = .next ((s.putPort p (u q)).report (.event p e)) := by
  simp [byteRule, onPort, h, hg]

theorem byteRule_no_fault {s : State} {p : PortId} {e : Event} {g : Port → Bool} {u : Port → Port} {f : Fault} :
    byteRule s p e g u ≠ .fault f := by
  intro h
  obtain ⟨q, -, h⟩ := onPort_fault h
  split at h <;> cases h

/-! ### The read cursor -/

/-- A read that succeeds. -/
theorem hostRead_got {q : Port} {bs : List Byte} (hs : q.state = .commandReceived)
    (hl : q.rd.toNat + bs.length ≤ q.len.toNat) (h : q.Cells q.rd.toNat bs) :
    hostRead q bs.length = .got bs { q with rd := q.rd + BitVec.ofNat 7 bs.length } := by
  simp [hostRead, hs, hl, bufReads_ok h]

theorem hostRead_noFrame {q : Port} {n : Nat} (hs : q.state ≠ .commandReceived) :
    hostRead q n = .refused .noFrame q := by simp [hostRead, hs]

theorem hostRead_pastEnd {q : Port} {n : Nat} (hs : q.state = .commandReceived)
    (hl : ¬ q.rd.toNat + n ≤ q.len.toNat) : hostRead q n = .refused .readPastEnd q := by simp [hostRead, hs, hl]

/-- Everything a read can do: it gives its bytes and moves the cursor, or it is refused and leaves the port alone. -/
theorem hostRead_cases (q : Port) (n : Nat) :
    (∃ bs, hostRead q n = .got bs { q with rd := q.rd + BitVec.ofNat 7 n } ∧ q.state = .commandReceived ∧
      q.rd.toNat + n ≤ q.len.toNat ∧ bufReads q q.rd.toNat n = .ok bs) ∨
    (∃ r, hostRead q n = .refused r q) ∨
    (∃ f, hostRead q n = .fault f ∧ q.state = .commandReceived ∧ q.rd.toNat + n ≤ q.len.toNat ∧
      bufReads q q.rd.toNat n = .error f) := by
  unfold hostRead
  split
  · exact .inr (.inl ⟨_, rfl⟩)
  · rename_i hs
    split
    · rename_i hl
      cases hb : bufReads q q.rd.toNat n with
      | ok bs => exact .inl ⟨bs, rfl, by simpa using hs, hl, rfl⟩
      | error f => exact .inr (.inr ⟨f, rfl, by simpa using hs, hl, rfl⟩)
    · exact .inr (.inl ⟨_, rfl⟩)

/-- Reads through the cursor leave everything of the port but the cursor. -/
theorem hostReads_frame {q : Port} {ns : List Nat} :
    (∀ {bs q'}, hostReads q ns = .got bs q' → q' = { q with rd := q'.rd }) ∧
    (∀ {r q'}, hostReads q ns = .refused r q' → q' = { q with rd := q'.rd }) := by
  induction ns generalizing q with
  | nil => simp [hostReads]
  | cons n ns ih =>
    simp only [hostReads]
    obtain ⟨bs, h, -⟩ | ⟨r, h⟩ | ⟨f, h, -⟩ := hostRead_cases q n <;> simp only [h]
    · constructor
      · intro cs q' hq
        split at hq
        · rename_i h'; cases hq; rw [ih.1 h']
        · rename_i hne; exact absurd hq (hne _ _)
      · intro r q' hq
        split at hq
        · cases hq
        · rw [ih.2 hq]
    · constructor
      · intro _ _ hq; cases hq
      · intro _ _ hq; cases hq; rfl
    · constructor
      · intro _ _ hq; cases hq
      · intro _ _ hq; cases hq

/-! ### The dispatcher -/

theorem onCommand_held {s : State} {p : PortId} {ch : ChanId} {q : Port} (h : s.Holds p q) (hc : ch < s.tx.length)
    {g : Codes → Byte → Bool} (hg : g s.params.codes q.cmd = true) (k : Port → Res) :
    onCommand s p ch g k = k q := by simp [onCommand, onChan_lt hc, onFrame_held h, hg]

theorem onCommand_next {s t : State} {p : PortId} {ch : ChanId} {g : Codes → Byte → Bool} {k : Port → Res}
    (h : onCommand s p ch g k = .next t) :
    ch < s.tx.length ∧ ∃ q, s.ports[p]? = some q ∧
      ((q.state = .commandReceived ∧ g s.params.codes q.cmd = true ∧ k q = .next t) ∨
        (q.state ≠ .commandReceived ∧ t = s.refuse .noFrame)) := by
  obtain ⟨hc, h⟩ := onChan_next h
  obtain ⟨q, hq, h⟩ := onFrame_next h
  refine ⟨hc, q, hq, ?_⟩
  obtain ⟨h1, h2⟩ | h := h
  · split at h2
    · exact .inl ⟨h1, ‹_›, h2⟩
    · cases h2
  · exact .inr h

theorem onCommand_fault {s : State} {p : PortId} {ch : ChanId} {g : Codes → Byte → Bool} {k : Port → Res} {f : Fault}
    (h : onCommand s p ch g k = .fault f) : ∃ q, s.Holds p q ∧ k q = .fault f := by
  obtain ⟨-, h⟩ := onChan_fault h
  obtain ⟨q, hq, h⟩ := onFrame_fault h
  split at h
  · exact ⟨q, hq, h⟩
  · cases h

/-- Everything a query can do. -/
theorem query_next {s t : State} {p : PortId} {ch : ChanId} {code : Codes → Byte} {data : List Byte}
    (h : query s p ch code data = .next t) :
    t = s.refuse .noFrame ∨ ∃ q, s.Holds p q ∧ ch < s.tx.length ∧ q.cmd = code s.params.codes ∧
      t = s.reply ch q.cmd data := by
  obtain ⟨hc, q, hq, ⟨h1, h2, h3⟩ | ⟨-, h⟩⟩ := onCommand_next h
  · cases h3; exact .inr ⟨q, ⟨hq, h1⟩, hc, by simpa using h2, rfl⟩
  · exact .inl h

/-- Everything an action can do: it is refused for want of a frame, it has its effect and is answered, or a read is
refused and it has no effect. -/
theorem action_next {s t : State} {p : PortId} {ch : ChanId} {code : Codes → Byte} {ns : List Nat}
    {eff : List Byte → State → State} (h : action s p ch code ns eff = .next t) :
    t = s.refuse .noFrame ∨ ∃ q, s.Holds p q ∧ ch < s.tx.length ∧ q.cmd = code s.params.codes ∧
      ((∃ bs q', hostReads q ns = .got bs q' ∧ t = (eff bs (s.putPort p q')).reply ch q.cmd []) ∨
        ∃ r q', hostReads q ns = .refused r q' ∧ t = shortAction (s.putPort p q') ch r q.cmd) := by
  obtain ⟨hc, q, hq, ⟨h1, h2, h3⟩ | ⟨-, h⟩⟩ := onCommand_next h
  · refine .inr ⟨q, ⟨hq, h1⟩, hc, by simpa using h2, ?_⟩
    split at h3
    · cases h3; exact .inl ⟨_, _, ‹_›, rfl⟩
    · cases h3; exact .inr ⟨_, _, ‹_›, rfl⟩
    · cases h3
  · exact .inl h

theorem action_got {s : State} {p : PortId} {ch : ChanId} {code : Codes → Byte} {ns : List Nat}
    {eff : List Byte → State → State} {q q' : Port} {bs : List Byte} (h : s.Holds p q) (hc : ch < s.tx.length)
    (hk : q.cmd = code s.params.codes) (hr : hostReads q ns = .got bs q') :
    action s p ch code ns eff = .next ((eff bs (s.putPort p q')).reply ch q.cmd []) := by
  simp [action, onCommand_held h hc (g := fun k c => c == code k) (by simp [hk]), hr]

/-! ### The routing policy -/

namespace Laws.Policy

/-- Every outcome of the two comparators, every direction, every code. -/
def keys : List RouteKey :=
  [false, true].flatMap fun l => [false, true].flatMap fun w =>
    (List.range 256).flatMap fun d => (List.range 256).map fun c =>
      { matchLocal := l, matchWildcard := w, dir := BitVec.ofNat 8 d, cmd := BitVec.ofNat 8 c }

/-- The policy that is a given function. -/
def ofFun (f : RouteKey → Verdict) : Policy :=
  { Policy.ref with exceptions := keys.map fun k => (k, f k) }

theorem mem_keys (k : RouteKey) : k ∈ keys := by
  simp only [keys, List.mem_flatMap, List.mem_map, List.mem_range]
  refine ⟨k.matchLocal, by cases k.matchLocal <;> simp, k.matchWildcard, by cases k.matchWildcard <;> simp,
    k.dir.toNat, k.dir.isLt, k.cmd.toNat, k.cmd.isLt, ?_⟩
  simp

theorem lookup_map (f : RouteKey → Verdict) (k : RouteKey) (ks : List RouteKey) (h : k ∈ ks) :
    (ks.map fun k => (k, f k)).lookup k = some (f k) := by
  induction ks with
  | nil => cases h
  | cons a ks ih =>
    by_cases hk : k = a
    · subst hk; simp
    · have : (k == a) = false := by simpa using hk
      simp [List.lookup, this, ih (by simpa [hk] using h)]

/-- The data form of a policy loses nothing: every function of what the policy sees is one (log 10). -/
theorem ofFun_apply (f : RouteKey → Verdict) (k : RouteKey) : (ofFun f).apply k = f k := by
  simp [ofFun, Policy.apply, lookup_map f k keys (mem_keys k)]

end Laws.Policy

end Sys2Proof.Machine
end

