-- ==== Sys2Proof/Laws/PerInstr.lean ====
section
/-! SUPPORT. For every operation: its input decodes to it, wherever its row is the one the ports and codes select. -/

namespace Sys2Proof.Laws.RoundTrip

/-- The statement of the family: an operation that is well formed on the device, and whose row the ports and codes
select, is what the decoder reads from its input. -/
def Statement (i : Instr) : Prop :=
  ∀ e : DecodeEnv, (e.codes.queries ++ e.codes.actions).Nodup → i.wf e.ports.length e.nChans = true →
    i.fits e = true → decode e (encode i) = .ok i

/-- A condition on a port the device has. -/
theorem portIs_elim {e : DecodeEnv} {p : PortId} {f : PortCtx → Bool} (h : e.portIs p f = true) :
    ∃ c, e.ports[p]? = some c ∧ f c = true := by
  unfold DecodeEnv.portIs at h
  split at h
  · exact ⟨_, ‹_›, h⟩
  · cases h

/-- The first entry of a table whose keys are distinct is found under its key. -/
theorem lookup_of_nodup {α : Type} {l : List (Byte × α)} (h : (l.map Prod.fst).Nodup) {k : Byte} {v : α}
    (hm : (k, v) ∈ l) : l.lookup k = some v := by
  induction l with
  | nil => cases hm
  | cons a l ih =>
    obtain ⟨a, w⟩ := a
    simp only [List.map_cons, List.nodup_cons] at h
    obtain hm | hm := List.mem_cons.1 hm
    · cases hm; simp [List.lookup]
    · have : k ≠ a := fun hk => h.1 (hk ▸ List.mem_map_of_mem (f := Prod.fst) hm)
      have : (k == a) = false := by simpa using this
      simp [List.lookup, this, ih h.2 hm]

theorem lookup_none {α : Type} {l : List (Byte × α)} {k : Byte} (h : k ∉ l.map Prod.fst) : l.lookup k = none := by
  induction l with
  | nil => rfl
  | cons a l ih =>
    obtain ⟨a, w⟩ := a
    simp only [List.map_cons, List.mem_cons, not_or] at h
    have : (k == a) = false := by simpa using h.1
    simp [List.lookup, this, ih h.2]

theorem queryTable_keys (k : Codes) : (queryTable k).map Prod.fst = k.queries := rfl
theorem actionTable_keys (k : Codes) : (actionTable k).map Prod.fst = k.actions := rfl

/-- A code of the query table selects its query. -/
theorem decodeCommand_query {k : Codes} (h : (k.queries ++ k.actions).Nodup) {c : Byte} {f : PortId → ChanId → Instr}
    (hm : (c, f) ∈ queryTable k) (p : PortId) (ch : ChanId) : decodeCommand k p ch c = f p ch := by
  have hq : ((queryTable k).map Prod.fst).Nodup := (List.nodup_append.1 h).1
  simp [decodeCommand, lookup_of_nodup hq hm]

/-- A code of the action table selects its action. -/
theorem decodeCommand_action {k : Codes} (h : (k.queries ++ k.actions).Nodup) {c : Byte}
    {f : PortId → ChanId → Instr} (hm : (c, f) ∈ actionTable k) (p : PortId) (ch : ChanId) :
    decodeCommand k p ch c = f p ch := by
  obtain ⟨-, ha, hd⟩ := List.nodup_append.1 h
  have hc : c ∈ k.actions := actionTable_keys k ▸ List.mem_map_of_mem (f := Prod.fst) hm
  have hn : c ∉ (queryTable k).map Prod.fst := fun hq => hd c hq c hc rfl
  have ha' : ((actionTable k).map Prod.fst).Nodup := ha
  simp [decodeCommand, lookup_none hn, lookup_of_nodup ha' hm]

/-- A code of neither table is the unknown command. -/
theorem decodeCommand_unknown {k : Codes} {c : Byte} (h : c ∉ k.queries ++ k.actions) (p : PortId) (ch : ChanId) :
    decodeCommand k p ch c = .unknownCommand p ch := by
  simp only [List.mem_append, not_or] at h
  simp [decodeCommand, lookup_none (queryTable_keys k ▸ h.1), lookup_none (actionTable_keys k ▸ h.2)]

/-- The decoder's reading of a byte presented to a port the device has. -/
theorem decode_byte {e : DecodeEnv} {p : PortId} {c : PortCtx} (h : e.ports[p]? = some c) (b : Byte) :
    decode e (.byte p b) = .ok (decodeByte c p b) := by simp [decode, h]

/-- The decoder's reading of a dispatch. -/
theorem decode_dispatch {e : DecodeEnv} {p : PortId} {ch : ChanId} {c : PortCtx} (h : e.ports[p]? = some c)
    (hc : ch < e.nChans) : decode e (.dispatch p ch) = .ok (decodeCommand e.codes p ch c.cmd) := by
  simp [decode, h, hc]

/-- A query's dispatch decodes to it. -/
theorem query {e : DecodeEnv} (hn : (e.codes.queries ++ e.codes.actions).Nodup) {p : PortId} {ch : ChanId}
    {k : Byte} {f : PortId → ChanId → Instr} (hm : (k, f) ∈ queryTable e.codes)
    (hw : (decide (p < e.ports.length) && decide (ch < e.nChans)) = true)
    (hf : e.portIs p (fun c => c.cmd == k) = true) : decode e (.dispatch p ch) = .ok (f p ch) := by
  obtain ⟨c, hc, hk⟩ := portIs_elim hf
  simp only [beq_iff_eq] at hk
  rw [decode_dispatch hc (by simp at hw; exact hw.2), hk, decodeCommand_query hn hm]

/-- An action's dispatch decodes to it. -/
theorem action {e : DecodeEnv} (hn : (e.codes.queries ++ e.codes.actions).Nodup) {p : PortId} {ch : ChanId}
    {k : Byte} {f : PortId → ChanId → Instr} (hm : (k, f) ∈ actionTable e.codes)
    (hw : (decide (p < e.ports.length) && decide (ch < e.nChans)) = true)
    (hf : e.portIs p (fun c => c.cmd == k) = true) : decode e (.dispatch p ch) = .ok (f p ch) := by
  obtain ⟨c, hc, hk⟩ := portIs_elim hf
  simp only [beq_iff_eq] at hk
  rw [decode_dispatch hc (by simp at hw; exact hw.2), hk, decodeCommand_action hn hm]

/-- A request that takes the operands it carries, on ports and channels the device has, decodes to its operation. -/
theorem request {e : DecodeEnv} {r : Request} (hs : r.strayFree = true)
    (hp : r.op.operands.port = true → r.port < e.ports.length)
    (hc : r.op.operands.chan = true → r.chan < e.nChans) : decode e (.request r) = .ok r.instr := by
  simp only [decode, decodeRequest, hs]
  cases h1 : r.op.operands.port <;> cases h2 : r.op.operands.chan <;> simp_all

theorem idleSync (p : PortId) : Statement (.idleSync p) := by
  intro e _ _ hf
  obtain ⟨c, hc, hk⟩ := portIs_elim hf
  rw [encode, decode_byte hc]
  simp_all [decodeByte]

theorem idleReject (p : PortId) (b : Byte) : Statement (.idleReject p b) := by
  intro e _ hw hf
  obtain ⟨c, hc, hk⟩ := portIs_elim hf
  simp [Instr.wf] at hw
  rw [encode, decode_byte hc]
  simp_all [decodeByte]

theorem startM (p : PortId) : Statement (.startM p) := by
  intro e _ _ hf
  obtain ⟨c, hc, hk⟩ := portIs_elim hf
  rw [encode, decode_byte hc]
  simp_all [decodeByte]

theorem startResync (p : PortId) (b : Byte) : Statement (.startResync p b) := by
  intro e _ hw hf
  obtain ⟨c, hc, hk⟩ := portIs_elim hf
  simp [Instr.wf] at hw
  rw [encode, decode_byte hc]
  simp_all [decodeByte]

theorem mDirAction (p : PortId) : Statement (.mDirAction p) := by
  intro e _ _ hf
  obtain ⟨c, hc, hk⟩ := portIs_elim hf
  rw [encode, decode_byte hc]
  simp_all [decodeByte]

theorem mDirQuery (p : PortId) : Statement (.mDirQuery p) := by
  intro e _ _ hf
  obtain ⟨c, hc, hk⟩ := portIs_elim hf
  rw [encode, decode_byte hc]
  simp_all [decodeByte, Config.dirQuery, Config.dirAction]

theorem mResync (p : PortId) (b : Byte) : Statement (.mResync p b) := by
  intro e _ hw hf
  obtain ⟨c, hc, hk⟩ := portIs_elim hf
  simp [Instr.wf, Byte.isDirection] at hw
  rw [encode, decode_byte hc]
  simp_all [decodeByte]

theorem arrowId (p : PortId) (b : Byte) : Statement (.arrowId p b) := by
  intro e _ _ hf
  obtain ⟨c, hc, hk⟩ := portIs_elim hf
  rw [encode, decode_byte hc]
  simp_all [decodeByte]

theorem idLenOk (p : PortId) (b : Byte) : Statement (.idLenOk p b) := by
  intro e _ hw hf
  obtain ⟨c, hc, hk⟩ := portIs_elim hf
  simp [Instr.wf, Byte.isLength] at hw
  rw [encode, decode_byte hc]
  simp_all [decodeByte]

theorem idLenReject (p : PortId) (b : Byte) : Statement (.idLenReject p b) := by
  intro e _ hw hf
  obtain ⟨c, hc, hk⟩ := portIs_elim hf
  simp [Instr.wf, Byte.isLength] at hw
  rw [encode, decode_byte hc]
  simp_all [decodeByte]

theorem sizeCmd (p : PortId) (b : Byte) : Statement (.sizeCmd p b) := by
  intro e _ _ hf
  obtain ⟨c, hc, hk⟩ := portIs_elim hf
  rw [encode, decode_byte hc]
  simp_all [decodeByte]

theorem cmdPayload (p : PortId) (b : Byte) : Statement (.cmdPayload p b) := by
  intro e _ _ hf
  obtain ⟨c, hc, hk⟩ := portIs_elim hf
  rw [encode, decode_byte hc]
  simp_all [decodeByte]

theorem cmdTrailerOk (p : PortId) (b : Byte) : Statement (.cmdTrailerOk p b) := by
  intro e _ _ hf
  obtain ⟨c, hc, hk⟩ := portIs_elim hf
  rw [encode, decode_byte hc]
  simp_all [decodeByte]

theorem cmdTrailerBad (p : PortId) (b : Byte) : Statement (.cmdTrailerBad p b) := by
  intro e _ _ hf
  obtain ⟨c, hc, hk⟩ := portIs_elim hf
  rw [encode, decode_byte hc]
  simp_all [decodeByte]

theorem doneDrop (p : PortId) (b : Byte) : Statement (.doneDrop p b) := by
  intro e _ _ hf
  obtain ⟨c, hc, hk⟩ := portIs_elim hf
  rw [encode, decode_byte hc]
  simp_all [decodeByte]

theorem frameView (p : PortId) : Statement (.frameView p) := by
  intro e _ hw _; exact request rfl (by simp_all [Instr.wf, OpName.operands]) (by simp_all [Instr.wf, OpName.operands])

theorem portRelease (p : PortId) : Statement (.portRelease p) := by
  intro e _ hw _; exact request rfl (by simp_all [Instr.wf, OpName.operands]) (by simp_all [Instr.wf, OpName.operands])

theorem hostRead8 (p : PortId) : Statement (.hostRead8 p) := by
  intro e _ hw _; exact request rfl (by simp_all [Instr.wf, OpName.operands]) (by simp_all [Instr.wf, OpName.operands])

theorem hostRead16 (p : PortId) : Statement (.hostRead16 p) := by
  intro e _ hw _; exact request rfl (by simp_all [Instr.wf, OpName.operands]) (by simp_all [Instr.wf, OpName.operands])

theorem hostRead32 (p : PortId) : Statement (.hostRead32 p) := by
  intro e _ hw _; exact request rfl (by simp_all [Instr.wf, OpName.operands]) (by simp_all [Instr.wf, OpName.operands])

theorem setLocalId (v : Byte) : Statement (.setLocalId v) := by
  intro e _ hw _; exact request rfl (by simp_all [Instr.wf, OpName.operands]) (by simp_all [Instr.wf, OpName.operands])

theorem getLocalId : Statement (.getLocalId) := by
  intro e _ hw _; exact request rfl (by simp_all [Instr.wf, OpName.operands]) (by simp_all [Instr.wf, OpName.operands])

theorem txReply (ch : ChanId) (c : Byte) (payload : List Byte) : Statement (.txReply ch c payload) := by
  intro e _ hw _; exact request rfl (by simp_all [Instr.wf, OpName.operands]) (by simp_all [Instr.wf, OpName.operands])

theorem txError (ch : ChanId) (c : Byte) : Statement (.txError ch c) := by
  intro e _ hw _; exact request rfl (by simp_all [Instr.wf, OpName.operands]) (by simp_all [Instr.wf, OpName.operands])

theorem route (p : PortId) : Statement (.route p) := by
  intro e _ hw _; exact request rfl (by simp_all [Instr.wf, OpName.operands]) (by simp_all [Instr.wf, OpName.operands])

theorem relay (p : PortId) (ch : ChanId) : Statement (.relay p ch) := by
  intro e _ hw _; exact request rfl (by simp_all [Instr.wf, OpName.operands]) (by simp_all [Instr.wf, OpName.operands])

theorem relayPass (p : PortId) (ch : ChanId) : Statement (.relayPass p ch) := by
  intro e _ hw _; exact request rfl (by simp_all [Instr.wf, OpName.operands]) (by simp_all [Instr.wf, OpName.operands])

theorem relayRewrite (p : PortId) (ch : ChanId) : Statement (.relayRewrite p ch) := by
  intro e _ hw _; exact request rfl (by simp_all [Instr.wf, OpName.operands]) (by simp_all [Instr.wf, OpName.operands])

theorem reset : Statement (.reset) := by
  intro e _ hw _; exact request rfl (by simp_all [Instr.wf, OpName.operands]) (by simp_all [Instr.wf, OpName.operands])

theorem queryVersion (p : PortId) (ch : ChanId) : Statement (.queryVersion p ch) := by
  intro e hn hw hf; exact query hn (k := e.codes.version) (by simp [queryTable]) hw hf

theorem queryDeviceId (p : PortId) (ch : ChanId) : Statement (.queryDeviceId p ch) := by
  intro e hn hw hf; exact query hn (k := e.codes.deviceId) (by simp [queryTable]) hw hf

theorem queryStatus (p : PortId) (ch : ChanId) : Statement (.queryStatus p ch) := by
  intro e hn hw hf; exact query hn (k := e.codes.status) (by simp [queryTable]) hw hf

theorem queryChannel (p : PortId) (ch : ChanId) : Statement (.queryChannel p ch) := by
  intro e hn hw hf; exact query hn (k := e.codes.channel) (by simp [queryTable]) hw hf

theorem queryRssi (p : PortId) (ch : ChanId) : Statement (.queryRssi p ch) := by
  intro e hn hw hf; exact query hn (k := e.codes.rssi) (by simp [queryTable]) hw hf

theorem queryRssiThreshold (p : PortId) (ch : ChanId) : Statement (.queryRssiThreshold p ch) := by
  intro e hn hw hf; exact query hn (k := e.codes.rssiThreshold) (by simp [queryTable]) hw hf

theorem queryRssiFilter (p : PortId) (ch : ChanId) : Statement (.queryRssiFilter p ch) := by
  intro e hn hw hf; exact query hn (k := e.codes.rssiFilter) (by simp [queryTable]) hw hf

theorem queryLapMax (p : PortId) (ch : ChanId) : Statement (.queryLapMax p ch) := by
  intro e hn hw hf; exact query hn (k := e.codes.lapMax) (by simp [queryTable]) hw hf

theorem queryLapMinTime (p : PortId) (ch : ChanId) : Statement (.queryLapMinTime p ch) := by
  intro e hn hw hf; exact query hn (k := e.codes.lapMinTime) (by simp [queryTable]) hw hf

theorem queryLastLap (p : PortId) (ch : ChanId) : Statement (.queryLastLap p ch) := by
  intro e hn hw hf; exact query hn (k := e.codes.lastLap) (by simp [queryTable]) hw hf

theorem querySelectedLap (p : PortId) (ch : ChanId) : Statement (.querySelectedLap p ch) := by
  intro e hn hw hf; exact query hn (k := e.codes.selectedLap) (by simp [queryTable]) hw hf

theorem queryDebug (p : PortId) (ch : ChanId) : Statement (.queryDebug p ch) := by
  intro e hn hw hf; exact query hn (k := e.codes.debug) (by simp [queryTable]) hw hf

theorem actionReset (p : PortId) (ch : ChanId) : Statement (.actionReset p ch) := by
  intro e hn hw hf; exact action hn (k := e.codes.reset) (by simp [actionTable]) hw hf

theorem actionCalibrate (p : PortId) (ch : ChanId) : Statement (.actionCalibrate p ch) := by
  intro e hn hw hf; exact action hn (k := e.codes.calibrate) (by simp [actionTable]) hw hf

theorem actionStart (p : PortId) (ch : ChanId) : Statement (.actionStart p ch) := by
  intro e hn hw hf; exact action hn (k := e.codes.start) (by simp [actionTable]) hw hf

theorem actionActivate (p : PortId) (ch : ChanId) : Statement (.actionActivate p ch) := by
  intro e hn hw hf; exact action hn (k := e.codes.activate) (by simp [actionTable]) hw hf

theorem actionDeactivate (p : PortId) (ch : ChanId) : Statement (.actionDeactivate p ch) := by
  intro e hn hw hf; exact action hn (k := e.codes.deactivate) (by simp [actionTable]) hw hf

theorem actionSetDeviceId (p : PortId) (ch : ChanId) : Statement (.actionSetDeviceId p ch) := by
  intro e hn hw hf; exact action hn (k := e.codes.setDeviceId) (by simp [actionTable]) hw hf

theorem actionSelectLap (p : PortId) (ch : ChanId) : Statement (.actionSelectLap p ch) := by
  intro e hn hw hf; exact action hn (k := e.codes.selectLap) (by simp [actionTable]) hw hf

theorem actionSetChannel (p : PortId) (ch : ChanId) : Statement (.actionSetChannel p ch) := by
  intro e hn hw hf; exact action hn (k := e.codes.setChannel) (by simp [actionTable]) hw hf

theorem actionSetRssiThreshold (p : PortId) (ch : ChanId) : Statement (.actionSetRssiThreshold p ch) := by
  intro e hn hw hf; exact action hn (k := e.codes.setRssiThreshold) (by simp [actionTable]) hw hf

theorem actionSetRssiFilter (p : PortId) (ch : ChanId) : Statement (.actionSetRssiFilter p ch) := by
  intro e hn hw hf; exact action hn (k := e.codes.setRssiFilter) (by simp [actionTable]) hw hf

theorem actionSetLapMinTime (p : PortId) (ch : ChanId) : Statement (.actionSetLapMinTime p ch) := by
  intro e hn hw hf; exact action hn (k := e.codes.setLapMinTime) (by simp [actionTable]) hw hf

theorem actionSetLapMax (p : PortId) (ch : ChanId) : Statement (.actionSetLapMax p ch) := by
  intro e hn hw hf; exact action hn (k := e.codes.setLapMax) (by simp [actionTable]) hw hf

theorem actionSetDebug (p : PortId) (ch : ChanId) : Statement (.actionSetDebug p ch) := by
  intro e hn hw hf; exact action hn (k := e.codes.setDebug) (by simp [actionTable]) hw hf

theorem actionPersist (p : PortId) (ch : ChanId) : Statement (.actionPersist p ch) := by
  intro e hn hw hf; exact action hn (k := e.codes.persist) (by simp [actionTable]) hw hf

theorem unknownCommand (p : PortId) (ch : ChanId) : Statement (.unknownCommand p ch) := by
  intro e hn hw hf
  obtain ⟨c, hc, hk⟩ := portIs_elim hf
  simp only [Instr.wf, Bool.and_eq_true, decide_eq_true_eq] at hw
  rw [encode, decode_dispatch hc hw.2, decodeCommand_unknown (by simpa using hk)]

end Sys2Proof.Laws.RoundTrip
end

