-- ==== Sys2Proof/Certificates/Slice0/Obligations.lean ====
section
/-! DEFINITION. The statements for the provers, from the numbered rules of spec/. In every one of them the parameters
`s.params` are any parameters, the free values any values. -/

open Sys2Proof Sys2Proof.Machine

/-! ### Reset -/

/-- R51, R52: every port is `Idle` and the local id is 1 in the state after reset. -/
def Obligations.ResetLeavesPortsIdleAndLocalIdOne : Prop :=
  (∀ q ∈ State.reset.ports, q.state = .idle ∧ q.frameReady = false ∧ q.rxReady = true) ∧ State.reset.localId = 1

/-- R54, R313 and the invariants of 10_state section 6: the state after reset meets the device's invariant, has sent
nothing and has refused nothing. The values of the fields R53 leaves open are the model's (logs 4, 5, 18). -/
def Obligations.ResetMeetsInvariant : Prop :=
  State.reset.Inv ∧ State.reset.Clean ∧ ∀ bs ∈ State.reset.tx, bs = []

/-- R310, R312 with R54, and the writers' table R37: RESET puts every port in `Idle`, the local id to 1 and every
transmit stream empty, and writes nothing else. That the streams already sent are emptied, and that the collaborator, the
selection and the model's own fields keep what they hold, is log 25. -/
def Obligations.ResetOperationWritesStatesLocalIdAndStreamsOnly : Prop :=
  ∀ s : State, ∃ t, exec .reset s = .next t ∧ t.localId = 1 ∧ t.ports.length = s.ports.length ∧
    (∀ (p : PortId) (q : Port), s.ports[p]? = some q → t.ports[p]? = some { q with state := .idle }) ∧
    t.tx.length = s.tx.length ∧ (∀ bs ∈ t.tx, bs = []) ∧ t.collab = s.collab ∧ t.selection = s.selection ∧
    t.triggers = s.triggers ∧ t.pending = s.pending ∧ t.params = s.params ∧ t.refusalSeen = s.refusalSeen ∧
    t.fresh = s.fresh

/-! ### The byte steps, one clause per rule: the decoder selects the row, and what the row does -/

/-- R121 to R124. -/
def Obligations.IdleAndFrameStartByteSteps : Prop :=
  ∀ (s : State) (p : PortId) (q : Port) (b : Byte), s.ports[p]? = some q →
    (q.state = .idle → b = 0x24 → decode s.env (.byte p b) = .ok (.idleSync p) ∧
      exec (.idleSync p) s =
        .next { s with ports := s.ports.set p { q with state := .frameStart }, out := .event p .consumed }) ∧
    (q.state = .idle → b ≠ 0x24 → decode s.env (.byte p b) = .ok (.idleReject p b) ∧
      exec (.idleReject p b) s = .next { s with out := .event p .rejected }) ∧
    (q.state = .frameStart → b = 0x4D → decode s.env (.byte p b) = .ok (.startM p) ∧
      exec (.startM p) s =
        .next { s with ports := s.ports.set p { q with state := .headerM }, out := .event p .consumed }) ∧
    (q.state = .frameStart → b ≠ 0x4D → decode s.env (.byte p b) = .ok (.startResync p b) ∧
      exec (.startResync p b) s =
        .next { s with ports := s.ports.set p { q with state := .idle }, out := .event p .resync })

/-- R125 to R127. -/
def Obligations.DirectionAndTargetIdByteSteps : Prop :=
  ∀ (s : State) (p : PortId) (q : Port) (b : Byte), s.ports[p]? = some q →
    (q.state = .headerM → b = 0x3C → decode s.env (.byte p b) = .ok (.mDirAction p) ∧
      exec (.mDirAction p) s =
        .next { s with
          ports := s.ports.set p { q with dir := b, state := .headerArrow }, out := .event p .consumed }) ∧
    (q.state = .headerM → b = 0x3E → decode s.env (.byte p b) = .ok (.mDirQuery p) ∧
      exec (.mDirQuery p) s =
        .next { s with
          ports := s.ports.set p { q with dir := b, state := .headerArrow }, out := .event p .consumed }) ∧
    (q.state = .headerM → b ≠ 0x3C → b ≠ 0x3E → decode s.env (.byte p b) = .ok (.mResync p b) ∧
      exec (.mResync p b) s =
        .next { s with ports := s.ports.set p { q with state := .idle }, out := .event p .resync }) ∧
    (q.state = .headerArrow → decode s.env (.byte p b) = .ok (.arrowId p b) ∧
      exec (.arrowId p b) s =
        .next { s with
          ports := s.ports.set p { q with targetId := b, state := .headerDeviceId }, out := .event p .consumed })

/-- R128 to R130. -/
def Obligations.LengthAndCommandByteSteps : Prop :=
  ∀ (s : State) (p : PortId) (q : Port) (b : Byte), s.ports[p]? = some q →
    (q.state = .headerDeviceId → b.toNat ≤ 64 → decode s.env (.byte p b) = .ok (.idLenOk p b) ∧
      exec (.idLenOk p b) s =
        .next { s with
          ports := s.ports.set p { q with len := b, cksum := b, wr := 0, rd := 0, state := .headerSize }
          out := .event p .consumed }) ∧
    (q.state = .headerDeviceId → 64 < b.toNat → decode s.env (.byte p b) = .ok (.idLenReject p b) ∧
      exec (.idLenReject p b) s =
        .next { s with ports := s.ports.set p { q with state := .idle }, out := .event p .lengthReject }) ∧
    (q.state = .headerSize → decode s.env (.byte p b) = .ok (.sizeCmd p b) ∧
      exec (.sizeCmd p b) s =
        .next { s with
          ports := s.ports.set p { q with cksum := q.cksum ^^^ b, cmd := b, state := .headerCmd }
          out := .event p .consumed })

/-- R131: a payload byte is stored at the write cursor, and at no other index; it enters the checksum; the cursor
moves by one. The length bound is the invariant R40. -/
def Obligations.PayloadByteStepStoresAtWriteCursor : Prop :=
  ∀ (s : State) (p : PortId) (q : Port) (b : Byte), s.ports[p]? = some q → q.state = .headerCmd →
    q.len.toNat ≤ 64 → q.wr.toNat < q.len.toNat →
    decode s.env (.byte p b) = .ok (.cmdPayload p b) ∧
    ∃ q' : Port, exec (.cmdPayload p b) s =
        .next { s with ports := s.ports.set p q', out := .event p .consumed } ∧
      q' = { q with buf := q'.buf, cksum := q.cksum ^^^ b, wr := q'.wr } ∧ q'.wr.toNat = q.wr.toNat + 1 ∧
      Memory.read q'.buf q.wr.toNat = some b ∧
      ∀ j, j ≠ q.wr.toNat → Memory.read q'.buf j = Memory.read q.buf j

/-- R132, R133: the trailer. -/
def Obligations.TrailerByteSteps : Prop :=
  ∀ (s : State) (p : PortId) (q : Port) (b : Byte), s.ports[p]? = some q →
    (q.state = .headerCmd → q.wr.toNat = q.len.toNat → b = q.cksum →
      decode s.env (.byte p b) = .ok (.cmdTrailerOk p b) ∧
      exec (.cmdTrailerOk p b) s =
        .next { s with
          ports := s.ports.set p { q with state := .commandReceived }, out := .event p .frameDone }) ∧
    (q.state = .headerCmd → q.wr.toNat = q.len.toNat → b ≠ q.cksum →
      decode s.env (.byte p b) = .ok (.cmdTrailerBad p b) ∧
      exec (.cmdTrailerBad p b) s =
        .next { s with ports := s.ports.set p { q with state := .idle }, out := .event p .checksumDiscard })

/-- R134, the spec's decision D4: while a port holds a frame every byte presented to it is lost, and nothing of the
block is written. -/
def Obligations.HeldFrameDropsEveryByte : Prop :=
  ∀ (s : State) (p : PortId) (q : Port) (b : Byte), s.Holds p q →
    decode s.env (.byte p b) = .ok (.doneDrop p b) ∧
    exec (.doneDrop p b) s = .next { s with out := .event p .dropped } ∧
    ∀ rest, s.pending = .byte p b :: rest → step s = .next { s with pending := rest, out := .event p .dropped }

/-- R100, R120, R233: on a device that meets its invariant a well-formed operation completes wherever the ports and
the codes select its row (but for the two relay arms, of which `OtherFramesAreRelayedUnchanged` and
`EnumerationFramesAreRestamped` say where they run). Elsewhere its rule gives no meaning and the model refuses it by
name (logs 12, 13); a command on a port that holds no frame is refused with NoFrame. -/
def Obligations.OperationsRunExactlyWhereSelected : Prop :=
  ∀ (s : State) (i : Instr), s.Inv →
    (i.wf s.ports.length s.tx.length = true → i.fits s.env = true →
      (∀ p ch, i ≠ .relayPass p ch ∧ i ≠ .relayRewrite p ch) → ∃ t, exec i s = .next t) ∧
    (i.wf s.ports.length s.tx.length = true → i.fits s.env = false →
      (∀ p ch q, encode i = .dispatch p ch → s.ports[p]? = some q → q.state = .commandReceived) →
      exec i s = .refused .ruleNotSelected) ∧
    (i.wf s.ports.length s.tx.length = false →
      ∃ r ∈ [Refusal.noSuchPort, .noSuchChannel, .ruleNotSelected], exec i s = .refused r)

/-- R16, R120: a step on a presented byte is `rx_step` of that port, and reports its event. -/
def Obligations.StepOnAByteIsRxStep : Prop :=
  ∀ (s : State) (p : PortId) (q : Port) (b : Byte) (rest : List Input), s.ports[p]? = some q →
    s.pending = .byte p b :: rest →
    (∀ q' e, rxStep q b = .ok (q', e) →
      step s = .next { s with ports := s.ports.set p q', pending := rest, out := .event p e }) ∧
    (∀ f, rxStep q b = .error f → step s = .fault f)

/-- R140, R20: a byte step touches no other port, emits nothing, and writes no device-level state. -/
def Obligations.ByteStepsTouchOnlyTheirPort : Prop :=
  ∀ (s t : State) (i : Instr) (p : PortId) (b : Byte), encode i = .byte p b → exec i s = .next t → SameButPort p s t

/-- R282: a framing failure consumes the byte, writes `state <- Idle` of its port, and does nothing else. -/
def Obligations.FramingFailureWritesOnlyTheParseState : Prop :=
  ∀ (s t : State) (p : PortId) (b : Byte) (rest : List Input) (e : Event), s.pending = .byte p b :: rest →
    step s = .next t → t.out = .event p e → e ∈ [.resync, .lengthReject, .checksumDiscard] →
    ∃ q, s.ports[p]? = some q ∧
      t = { s with ports := s.ports.set p { q with state := .idle }, pending := rest, out := .event p e }

/-! ### The receive framer over a stream -/

/-- R135: acceptance of a well-formed frame, from `Idle`, byte for byte. -/
def Obligations.WellFormedFrameIsAccepted : Prop :=
  ∀ (q : Port) (d i c : Byte) (pl : List Byte), q.state = .idle → d = 0x3C ∨ d = 0x3E → pl.length ≤ 64 →
    (serialize d i c pl).length = 7 + pl.length ∧
    (∃ q', rxFeed q (serialize d i c pl) = .ok (q', List.replicate (6 + pl.length) .consumed ++ [.frameDone]) ∧
      q'.state = .commandReceived ∧ q'.dir = d ∧ q'.targetId = i ∧ q'.len.toNat = pl.length ∧ q'.cmd = c ∧
      (∀ j, j < pl.length → Memory.read q'.buf j = pl[j]?) ∧ q'.wr.toNat = pl.length ∧ q'.rd = 0 ∧
      some q'.cksum = (serialize d i c pl).getLast?) ∧
    ∀ n, n < 7 + pl.length → ∃ q' es, rxFeed q ((serialize d i c pl).take n) = .ok (q', es) ∧
      q'.state ≠ .commandReceived

/-- R136: only well-formed frames are accepted: the bytes a port has consumed when it completes a frame end with
that frame. -/
def Obligations.OnlyWellFormedFramesAreAccepted : Prop :=
  ∀ (q q' : Port) (bs : List Byte) (es : List Event), q.state = .idle → rxFeed q bs = .ok (q', es ++ [.frameDone]) →
    ∃ (noise pl : List Byte), bs = noise ++ serialize q'.dir q'.targetId q'.cmd pl ∧
      (q'.dir = 0x3C ∨ q'.dir = 0x3E) ∧ q'.len.toNat ≤ 64 ∧ q'.Carries pl

/-- R137 (a): a frame with one bit of its command code, payload or trailer flipped ends in `Idle` with a checksum
discard at its last byte. -/
def Obligations.FlippedBitAfterLengthIsDiscarded : Prop :=
  ∀ (q : Port) (d i c : Byte) (pl : List Byte) (n k : Nat), q.state = .idle → d = 0x3C ∨ d = 0x3E →
    pl.length ≤ 64 → 5 ≤ n → n < 7 + pl.length → k < 8 →
    ∃ q', rxFeed q ((serialize d i c pl).modify n (· ^^^ BitVec.twoPow 8 k)) =
        .ok (q', List.replicate (6 + pl.length) .consumed ++ [.checksumDiscard]) ∧ q'.state = .idle

/-- R138: an oversize length leaves everything but the direction and the target id as it was. -/
def Obligations.OversizeLengthWritesNothingBehindTheGuard : Prop :=
  ∀ (q : Port) (d i b : Byte), q.state = .idle → d = 0x3C ∨ d = 0x3E → 64 < b.toNat →
    rxFeed q [0x24, 0x4D, d, i, b] =
      .ok ({ q with dir := d, targetId := i }, [.consumed, .consumed, .consumed, .consumed, .lengthReject])

/-- R77 (d): byte steps of two ports may be taken in either order. -/
def Obligations.BytesOfTwoPortsCommute : Prop :=
  ∀ (s t : State) (p p' : PortId) (b b' : Byte), p ≠ p' →
    steps 2 { s with pending := [.byte p b, .byte p' b'] } = .next t →
    ∃ t', steps 2 { s with pending := [.byte p' b', .byte p b] } = .next t' ∧
      { t' with out := t.out } = t

/-! ### Port control -/

/-- R160. That FRAME_VIEW of a port that holds no frame is refused is the spec's choice (R290, which marks the refusals
as its own); that a refusal is a next state with a sticky mark is log 7. -/
def Obligations.FrameViewShowsTheHeldFrame : Prop :=
  ∀ (s : State) (p : PortId) (q : Port), s.ports[p]? = some q →
    (∀ pl, q.state = .commandReceived → q.Carries pl →
      exec (.frameView p) s =
        .next { s with
          out := .view { cmd := q.cmd, targetId := q.targetId, dir := q.dir, len := q.len, payload := pl } }) ∧
    (q.state ≠ .commandReceived →
      exec (.frameView p) s = .next { s with out := .refused .noFrame, refusalSeen := true })

/-- R162. -/
def Obligations.ReleaseReturnsThePortToIdle : Prop :=
  ∀ (s : State) (p : PortId) (q : Port), s.Holds p q →
    ∃ t, exec (.portRelease p) s = .next t ∧
      t = { s with ports := s.ports.set p { q with state := .idle }, out := .done } ∧
      ∀ q', t.ports[p]? = some q' → q'.frameReady = false

/-- R164 to R167: the reads through the cursor, their values, and their refusals, all or nothing (the spec's
decisions D12, D13). -/
def Obligations.HostReadsReturnLittleEndianAndAdvance : Prop :=
  ∀ (s : State) (p : PortId) (q : Port), s.ports[p]? = some q →
    (∀ a, q.state = .commandReceived → q.Operand [a] →
      exec (.hostRead8 p) s =
        .next { s with ports := s.ports.set p { q with rd := q.rd + 1 }, out := .byte a }) ∧
    (∀ a b, q.state = .commandReceived → q.Operand [a, b] →
      exec (.hostRead16 p) s =
        .next { s with ports := s.ports.set p { q with rd := q.rd + 2 }, out := .half (b ++ a) }) ∧
    (∀ a b c d, q.state = .commandReceived → q.Operand [a, b, c, d] →
      exec (.hostRead32 p) s =
        .next { s with ports := s.ports.set p { q with rd := q.rd + 4 }, out := .word ((d ++ c) ++ (b ++ a)) }) ∧
    ∀ i n, (i, n) ∈ [(Instr.hostRead8 p, 1), (.hostRead16 p, 2), (.hostRead32 p, 4)] →
      (q.state ≠ .commandReceived → exec i s = .next { s with out := .refused .noFrame, refusalSeen := true }) ∧
      (q.state = .commandReceived → q.len.toNat < q.rd.toNat + n →
        exec i s = .next { s with out := .refused .readPastEnd, refusalSeen := true })

/-- R68, R166, R167: a wide read leaves the port as the narrower reads would, and its value is theirs. -/
def Obligations.WideReadIsTwoNarrowReads : Prop :=
  ∀ (s t u : State) (p : PortId),
    (∀ lo hi : Byte, exec (.hostRead8 p) s = .next t → t.out = .byte lo → exec (.hostRead8 p) t = .next u →
      u.out = .byte hi → exec (.hostRead16 p) s = .next { u with out := .half (hi ++ lo) }) ∧
    (∀ lo hi : Half, exec (.hostRead16 p) s = .next t → t.out = .half lo → exec (.hostRead16 p) t = .next u →
      u.out = .half hi → exec (.hostRead32 p) s = .next { u with out := .word (hi ++ lo) })

/-- R168, R169. That every value is stored, 0 included, is the spec's decision D26. -/
def Obligations.LocalIdIsStoredAndReadBack : Prop :=
  ∀ (s : State) (v : Byte),
    exec (.setLocalId v) s = .next { s with localId := v, out := .done } ∧
    exec .getLocalId s = .next { s with out := .byte s.localId }

/-- R31, R298: the local id is written by SET_LOCAL_ID, by RESET, and by a dispatched "set device id". -/
def Obligations.LocalIdHasThreeWriters : Prop :=
  ∀ (s t : State) (i : Instr), exec i s = .next t → t.localId ≠ s.localId →
    (∃ v, i = .setLocalId v) ∨ i = .reset ∨ ∃ p ch, i = .actionSetDeviceId p ch

/-- R290: each refusal changes no state of the block and reports its reason: NoFrame of every control operation and
command on a port, ReplyTooLong of TX_REPLY, ReadPastEnd of the host reads (the spec's decisions D11, D12, D13, D16; that a refusal
is a next state with a sticky mark is log 7). -/
def Obligations.RefusedOperationChangesNothing : Prop :=
  (∀ (s : State) (p : PortId) (ch : ChanId) (q : Port) (i : Instr), s.ports[p]? = some q →
    q.state ≠ .commandReceived → ch < s.tx.length →
    i ∈ [.frameView p, .portRelease p, .hostRead8 p, .hostRead16 p, .hostRead32 p, .route p, .relay p ch,
      .relayPass p ch, .relayRewrite p ch] ∨ encode i = .dispatch p ch →
    exec i s = .next { s with out := .refused .noFrame, refusalSeen := true }) ∧
  (∀ (s : State) (ch : ChanId) (c : Byte) (pl : List Byte), ch < s.tx.length → 64 < pl.length →
    exec (.txReply ch c pl) s = .next { s with out := .refused .replyTooLong, refusalSeen := true }) ∧
  ∀ (s : State) (p : PortId) (q : Port) (i : Instr) (n : Nat), s.Holds p q → q.len.toNat < q.rd.toNat + n →
    (i, n) ∈ [(Instr.hostRead8 p, 1), (.hostRead16 p, 2), (.hostRead32 p, 4)] →
    exec i s = .next { s with out := .refused .readPastEnd, refusalSeen := true }

/-- R298: no operation of the host or the dispatcher writes a port's header fields, checksum, write cursor or buffer,
or puts a port into any parse state but `Idle`. -/
def Obligations.HostNeverForgesAFrame : Prop :=
  ∀ (s t : State) (i : Instr), (∀ p b, encode i ≠ .byte p b) → exec i s = .next t →
    t.ports.length = s.ports.length ∧
    ∀ (p : PortId) (q : Port), s.ports[p]? = some q → ∃ q', t.ports[p]? = some q' ∧
      q' = { q with state := q'.state, rd := q'.rd } ∧ (q'.state = q.state ∨ q'.state = .idle)

/-- R22, R162: only PORT_RELEASE of that port and RESET end the hold of a frame. -/
def Obligations.OnlyReleaseAndResetEndAHold : Prop :=
  ∀ (s t : State) (i : Instr) (p : PortId) (q q' : Port), exec i s = .next t → s.Holds p q →
    t.ports[p]? = some q' → q'.state ≠ .commandReceived → i = .portRelease p ∨ i = .reset

/-! ### The transmit framer -/

/-- R183: the success reply, byte for byte, and the refusal of a payload above 64 bytes. That `>` marks success and
that a longer payload is refused are the spec's decisions D14 and D16. -/
def Obligations.SuccessReplyBytes : Prop :=
  ∀ (s : State) (ch : ChanId) (c : Byte) (pl : List Byte), ch < s.tx.length →
    (pl.length ≤ 64 →
      exec (.txReply ch c pl) s =
        .next { s with
          tx := s.tx.modify ch (· ++ ([0x24, 0x4D, 0x3E, s.localId, BitVec.ofNat 8 pl.length, c] ++ pl ++
            [BitVec.ofNat 8 pl.length ^^^ c ^^^ pl.foldr (· ^^^ ·) 0]))
          out := .done }) ∧
    (64 < pl.length →
      exec (.txReply ch c pl) s = .next { s with out := .refused .replyTooLong, refusalSeen := true })

/-- R184: the error reply, byte for byte. -/
def Obligations.ErrorReplyBytes : Prop :=
  ∀ (s : State) (ch : ChanId) (c : Byte), ch < s.tx.length →
    exec (.txError ch c) s =
      .next { s with
        tx := s.tx.modify ch (· ++ [0x24, 0x4D, s.params.dirError, s.localId, 0, c, c]), out := .done }

/-- R181, R182: the serialiser of R181 is the byte-wise transmit framer of R182. -/
def Obligations.SerializerIsTheStreamingFramer : Prop :=
  ∀ (d i c : Byte) (pl : List Byte), pl.length ≤ 64 →
    serialize d i c pl = [0x24, 0x4D, d, i] ++ streamOut 0 (BitVec.ofNat 8 pl.length :: c :: pl) ∧
    (serialize d i c pl).length = 7 + pl.length

/-- R185, R102: a success reply is accepted by an idle port; an error reply is abandoned at its third byte. -/
def Obligations.SuccessRepliesAreFramesErrorRepliesAreNot : Prop :=
  ∀ (q : Port) (i c : Byte), q.state = .idle →
    (∀ pl : List Byte, pl.length ≤ 64 → ∃ q' es, rxFeed q (replyOk i c pl) = .ok (q', es ++ [.frameDone]) ∧
      q'.state = .commandReceived ∧ q'.dir = 0x3E ∧ q'.targetId = i ∧ q'.cmd = c ∧ q'.Carries pl) ∧
    ∀ k : Params, k.Admissible → ∃ es, .frameDone ∉ es ∧
      rxFeed q (replyErr k.dirError i c) = .ok (q, .consumed :: .consumed :: .resync :: es)

/-- R61, R83: a transmit stream only grows, at its end (the spec's decisions D17, D18), but for RESET, after which every
stream is empty (R312 with R54; log 25). -/
def Obligations.TransmitStreamsAreAppendOnly : Prop :=
  ∀ (s t : State) (i : Instr), exec i s = .next t → t.tx.length = s.tx.length ∧
    ∀ (ch : ChanId) (bs : List Byte), s.tx[ch]? = some bs →
      (i ≠ .reset → ∃ cs, t.tx[ch]? = some (bs ++ cs)) ∧ (i = .reset → t.tx[ch]? = some [])

/-! ### Routing and relay -/

/-- R203, with the comparators of R200. That the policy sees these four things is the spec's decision D23. -/
def Obligations.RouteReturnsThePolicysVerdict : Prop :=
  ∀ (s : State) (p : PortId) (q : Port), s.ports[p]? = some q →
    (q.state = .commandReceived →
      exec (.route p) s =
        .next { s with
          out := .verdict (s.params.policy.apply
            { matchLocal := decide (q.targetId = s.localId), matchWildcard := decide (q.targetId = 0)
              dir := q.dir, cmd := q.cmd }) }) ∧
    (q.state ≠ .commandReceived → exec (.route p) s = .next { s with out := .refused .noFrame, refusalSeen := true })

/-- R204 (a), (b): under every admissible policy a frame that matches is dispatched and one that does not is relayed.
The data form of the policy is the model's (log 10). -/
def Obligations.MatchingFramesAreDispatchedOthersRelayed : Prop :=
  ∀ (s t : State) (p : PortId) (q : Port) (v : Verdict), s.params.Admissible → s.Holds p q →
    exec (.route p) s = .next t → t.out = .verdict v →
    (q.targetId = s.localId ∨ q.targetId = 0 → v.dispatch = true) ∧
    (q.targetId ≠ s.localId → q.targetId ≠ 0 → v.relay = true)

/-- R205, the spec's decision D23: the reference policy's truth table; it is admissible. -/
def Obligations.ReferencePolicyTable : Prop :=
  Policy.ref.Admissible ∧ ∀ k : RouteKey, Policy.ref.apply k =
    { dispatch := k.matchLocal || k.matchWildcard, relay := k.matchWildcard || !k.matchLocal
      order := .dispatchFirst }

/-- R207, R208, R214: a frame that is not an enumeration frame is forwarded with its own header and payload, whatever
the read cursor is (the spec's decisions D19, D22); nothing of the block is written. The rewriting arm is not to be had
for it (log 14). -/
def Obligations.OtherFramesAreRelayedUnchanged : Prop :=
  ∀ (s : State) (p : PortId) (ch : ChanId) (q : Port) (pl : List Byte), s.Holds p q → ch < s.tx.length →
    ¬ (q.dir = 0x3C ∧ q.cmd = s.params.codes.setDeviceId) → q.Carries pl →
    (∀ i ∈ [Instr.relay p ch, .relayPass p ch],
      exec i s = .next { s with
        tx := s.tx.modify ch (· ++ serialize q.dir q.targetId q.cmd pl), out := .done }) ∧
    exec (.relayRewrite p ch) s = .refused .armNotRequestable

/-- R207, R210, R211, R212, R214: an enumeration frame is forwarded with the one payload byte local id plus one,
whatever its own length (the spec's decisions D19, D20, D21); nothing of the block is written. The pass-through arm is
not to be had for it (log 14). -/
def Obligations.EnumerationFramesAreRestamped : Prop :=
  ∀ (s : State) (p : PortId) (ch : ChanId) (q : Port) (v : Byte), s.Holds p q → ch < s.tx.length →
    q.dir = 0x3C → q.cmd = s.params.codes.setDeviceId → v.toNat = (s.localId.toNat + 1) % 256 →
    (∀ i ∈ [Instr.relay p ch, .relayRewrite p ch],
      exec i s = .next { s with
        tx := s.tx.modify ch
          (· ++ [0x24, 0x4D, 0x3C, q.targetId, 1, s.params.codes.setDeviceId, v, 1 ^^^ s.params.codes.setDeviceId ^^^ v])
        out := .done }) ∧
    exec (.relayPass p ch) s = .refused .armNotRequestable

/-- R209: what the pass-through arm emits for a frame a port has received is that frame, byte for byte. -/
def Obligations.RelayedFrameIsByteIdentical : Prop :=
  ∀ (s t : State) (p : PortId) (ch : ChanId) (q₀ q : Port) (frame : List Byte) (es : List Event),
    q₀.state = .idle → rxFeed q₀ frame = .ok (q, es ++ [.frameDone]) → .frameDone ∉ es →
    .rejected ∉ es → .resync ∉ es → .lengthReject ∉ es → .checksumDiscard ∉ es → s.ports[p]? = some q →
    exec (.relayPass p ch) s = .next t → ∀ bs, s.tx[ch]? = some bs → t.tx[ch]? = some (bs ++ frame)

/-- R219: the chain law. Each device of a chain takes the frame the one before it relayed, dispatches it first and
relays it then; ids and relayed payloads grow by one per hop, modulo 256. Where the reply leaves on a channel of its own
(`ch ≠ rc`), all that appears on the relay's channel is the relayed frame. Where one channel carries both (`ch = rc`, as
on a device with one port, log 11), seven bytes of a reply come first: they are the empty success reply, whose `>` is
decision D14. The next device takes the relayed frame in either case: the chain is the statement's hypothesis (log 28). -/
def Obligations.EnumerationChainLaw : Prop :=
  ∀ (ds ts : Nat → State) (frames : Nat → List Byte) (p : PortId) (ch rc : ChanId) (k : Codes) (v : Byte),
    (∀ n, (ds n).Inv ∧ (ds n).params.codes = k ∧ (ds n).params.setIdZero = .apply ∧ ch < (ds n).tx.length ∧
      rc < (ds n).tx.length ∧ ∃ q, (ds n).ports[p]? = some q ∧ q.state = .idle) →
    frames 0 = enumFrame k 0 v →
    (∀ n, hop p ch rc (frames n) (ds n) = .next (ts n)) →
    (∀ n bs, (ds n).tx[rc]? = some bs → ∃ reply : List Byte, reply.length = (if ch = rc then 7 else 0) ∧
      (ts n).tx[rc]? = some (bs ++ (reply ++ frames (n + 1)))) →
    ∀ n, (ts n).localId = v + BitVec.ofNat 8 n ∧ frames n = enumFrame k 0 (v + BitVec.ofNat 8 n) ∧
      (ch = rc → ∀ bs, (ds n).tx[rc]? = some bs →
        (ts n).tx[rc]? = some (bs ++ (serialize 0x3E (v + BitVec.ofNat 8 n) k.setDeviceId [] ++ frames (n + 1))))

/-! ### The dispatcher

That a success reply carries `>` is the spec's decision D14; that a command is one atomic step, and that it reads its
operands from the cursor as it stands, are logs 16 and 31. -/

/-- R241, R242: the version and device-id queries, byte for byte. -/
def Obligations.VersionAndDeviceIdReplies : Prop :=
  ∀ (s : State) (p : PortId) (ch : ChanId) (q : Port),
    (s.Serves p ch q s.params.codes.version →
      exec (.queryVersion p ch) s =
        .next { s with
          tx := s.tx.modify ch (· ++
            [0x24, 0x4D, 0x3E, s.localId, 3, s.params.codes.version, s.params.protocolVersion, s.params.apiMajor,
              s.params.apiMinor, 3 ^^^ s.params.codes.version ^^^ s.params.protocolVersion ^^^ s.params.apiMajor ^^^
                s.params.apiMinor])
          out := .done }) ∧
    (s.Serves p ch q s.params.codes.deviceId →
      exec (.queryDeviceId p ch) s =
        .next { s with
          tx := s.tx.modify ch (· ++
            [0x24, 0x4D, 0x3E, s.localId, 1, s.params.codes.deviceId, s.localId,
              1 ^^^ s.params.codes.deviceId ^^^ s.localId])
          out := .done })

/-- R244, R246, R248: the channel, threshold and lap-maximum queries. -/
def Obligations.SettingQueriesReply : Prop :=
  ∀ (s : State) (p : PortId) (ch : ChanId) (q : Port) (x y : Byte),
    (s.Serves p ch q s.params.codes.channel → s.collab.settings.channel = y ++ x →
      exec (.queryChannel p ch) s =
        .next { s with tx := s.tx.modify ch (· ++ serialize 0x3E s.localId q.cmd [x, y]), out := .done }) ∧
    (s.Serves p ch q s.params.codes.rssiThreshold → s.collab.settings.threshold = y ++ x →
      exec (.queryRssiThreshold p ch) s =
        .next { s with tx := s.tx.modify ch (· ++ serialize 0x3E s.localId q.cmd [x, y]), out := .done }) ∧
    (s.Serves p ch q s.params.codes.lapMax → s.collab.settings.lapMax = x →
      exec (.queryLapMax p ch) s =
        .next { s with tx := s.tx.modify ch (· ++ serialize 0x3E s.localId q.cmd [x]), out := .done })

/-- R243, R245, R247, R252 with the splits of decision D34: the multi-field replies. That the debug bundle's current
RSSI is the raw reading is log 24. -/
def Obligations.BundleQueriesReply : Prop :=
  ∀ (s : State) (p : PortId) (ch : ChanId) (q : Port) (m : Measured), s.collab.measured = m →
    (s.Serves p ch q s.params.codes.status →
      exec (.queryStatus p ch) s =
        .next { s with
          tx := s.tx.modify ch (· ++ serialize 0x3E s.localId q.cmd [m.deviceState, m.timerState]), out := .done }) ∧
    (s.Serves p ch q s.params.codes.rssi →
      exec (.queryRssi p ch) s =
        .next { s with
          tx := s.tx.modify ch (· ++ serialize 0x3E s.localId q.cmd
            (enc16 m.rssiRaw ++ enc16 m.rssiMin ++ enc16 m.rssiMax ++ enc16 m.rssiFiltered))
          out := .done }) ∧
    (s.Serves p ch q s.params.codes.rssiFilter →
      exec (.queryRssiFilter p ch) s =
        .next { s with
          tx := s.tx.modify ch (· ++ serialize 0x3E s.localId q.cmd
            (enc16 s.collab.settings.filterQ ++ enc16 s.collab.settings.filterR))
          out := .done }) ∧
    (s.Serves p ch q s.params.codes.debug →
      exec (.queryDebug p ch) s =
        .next { s with
          tx := s.tx.modify ch (· ++ serialize 0x3E s.localId q.cmd
            ([m.deviceState, m.timerState, BitVec.ofNat 8 m.laps.length] ++ enc16 m.rssiRaw ++ enc16 m.rssiFiltered))
          out := .done })

/-- R249, R263: the minimum lap time is stored in milliseconds and reported in whole seconds; a time that was set is
reported as it was set. -/
def Obligations.MinimumLapTimeRoundTrip : Prop :=
  ∀ (s : State) (p : PortId) (ch : ChanId) (q : Port),
    (∀ lo hi : Byte, s.Serves p ch q s.params.codes.setLapMinTime → q.Operand [lo, hi] →
      ∃ ms : Word, ms.toNat = (hi.toNat * 256 + lo.toNat) * 1000 ∧
        exec (.actionSetLapMinTime p ch) s =
          .next { s with
            ports := s.ports.set p { q with rd := q.rd + 2 }
            collab := { s.collab with settings := { s.collab.settings with minLapMs := ms } }
            tx := s.tx.modify ch (· ++ serialize 0x3E s.localId q.cmd []), out := .done }) ∧
    (s.Serves p ch q s.params.codes.lapMinTime → ∀ secs : Half, s.collab.settings.minLapMs.toNat / 1000 = secs.toNat →
      exec (.queryLapMinTime p ch) s =
        .next { s with tx := s.tx.modify ch (· ++ serialize 0x3E s.localId q.cmd (enc16 secs)), out := .done })

/-- R250 with LAST_LAP_EMPTY: the record at `count - 1`, or what the parameter says when no lap is complete. -/
def Obligations.LastLapReply : Prop :=
  ∀ (s : State) (p : PortId) (ch : ChanId) (q : Port), s.Serves p ch q s.params.codes.lastLap →
    (∀ (n : Nat) (l : Lap), s.collab.measured.laps.length = n + 1 → s.collab.measured.laps[n]? = some l →
      exec (.queryLastLap p ch) s =
        .next { s with
          tx := s.tx.modify ch (· ++ serialize 0x3E s.localId q.cmd
            (BitVec.ofNat 8 (n + 1) :: (enc32 l.time ++ enc16 l.raw ++ enc16 l.filtered)))
          out := .done }) ∧
    (s.collab.measured.laps = [] → s.params.lastLapEmpty = .zeroedRecord →
      exec (.queryLastLap p ch) s =
        .next { s with
          tx := s.tx.modify ch (· ++ serialize 0x3E s.localId q.cmd (List.replicate 9 0)), out := .done }) ∧
    (s.collab.measured.laps = [] → s.params.lastLapEmpty = .errorReply →
      exec (.queryLastLap p ch) s =
        .next { s with
          tx := s.tx.modify ch (· ++ serialize s.params.dirError s.localId q.cmd []), out := .done })

/-- R251: a selected-lap reply carries nine bytes; where the selection is below the lap count and names an entry, the
last eight are that entry's record. The other bytes are free (log 22), and which entry a selection names is a
parameter. -/
def Obligations.SelectedLapReply : Prop :=
  ∀ (s : State) (p : PortId) (ch : ChanId) (q : Port), s.Serves p ch q s.params.codes.selectedLap →
    ∃ data : List Byte, data.length = 9 ∧
      exec (.querySelectedLap p ch) s =
        .next { s with
          tx := s.tx.modify ch (· ++ serialize 0x3E s.localId q.cmd data), out := .done, fresh := s.fresh + 9 } ∧
      ∀ (n : Nat) (l : Lap), s.selection.toNat < s.collab.measured.laps.length →
        (s.params.selectedEntry = .atSelection ∧ n = s.selection.toNat ∨
          s.params.selectedEntry = .beforeSelection ∧ n + 1 = s.selection.toNat) →
        s.collab.measured.laps[n]? = some l → data.drop 1 = enc32 l.time ++ enc16 l.raw ++ enc16 l.filtered

/-- R253 to R257: each trigger is raised and the action answered with an empty success; what the collaborator shows
afterwards is free within its contract's bounds (log 19). Nothing else changes. That the stored lap selection is kept is
the model's choice (log 19). -/
def Obligations.TriggerActionsRaiseAndAcknowledge : Prop :=
  ∀ (s : State) (p : PortId) (ch : ChanId) (q : Port) (i : Instr) (k : Byte) (g : Trigger),
    (i, k, g) ∈
      [(Instr.actionReset p ch, s.params.codes.reset, Trigger.reset),
        (.actionCalibrate p ch, s.params.codes.calibrate, .calibrate),
        (.actionStart p ch, s.params.codes.start, .start),
        (.actionActivate p ch, s.params.codes.activate, .activate),
        (.actionDeactivate p ch, s.params.codes.deactivate, .deactivate)] →
    s.Serves p ch q k →
    ∃ c : Collab, CollabInv c ∧
      exec i s =
        .next { s with
          triggers := s.triggers ++ [g], collab := c, fresh := s.fresh + 1
          tx := s.tx.modify ch (· ++ serialize 0x3E s.localId k []), out := .done }

/-- R266: persistence is triggered and acknowledged; that the collaborator's getters show what they showed is the
model's, and so is that the lap selection and the device state are kept (logs 19, 33). -/
def Obligations.PersistActionRaisesAndAcknowledges : Prop :=
  ∀ (s : State) (p : PortId) (ch : ChanId) (q : Port), s.Serves p ch q s.params.codes.persist →
    exec (.actionPersist p ch) s =
      .next { s with
        triggers := s.triggers ++ [.persist], fresh := s.fresh + 1
        tx := s.tx.modify ch (· ++ serialize 0x3E s.localId s.params.codes.persist []), out := .done }

/-- R258: "set device id" applies its byte, or ignores a zero where SET_ID_ZERO says so; the reply carries the id
after the effect. The zero is decision D26. -/
def Obligations.SetDeviceIdAppliesBeforeReplying : Prop :=
  ∀ (s : State) (p : PortId) (ch : ChanId) (q : Port) (v new : Byte), s.Serves p ch q s.params.codes.setDeviceId →
    q.Operand [v] → new = (if v = 0 ∧ s.params.setIdZero = .ignore then s.localId else v) →
    exec (.actionSetDeviceId p ch) s =
      .next { s with
        ports := s.ports.set p { q with rd := q.rd + 1 }, localId := new
        tx := s.tx.modify ch (· ++ serialize 0x3E new q.cmd []), out := .done }

/-- R259, R264: the two clamps. That an index is one byte is the spec's decision D34. -/
def Obligations.SelectionAndLapMaximumAreClamped : Prop :=
  ∀ (s : State) (p : PortId) (ch : ChanId) (q : Port) (v : Byte), q.Operand [v] →
    (s.Serves p ch q s.params.codes.selectLap → ∃ sel : Byte,
      sel.toNat = min v.toNat s.collab.measured.laps.length ∧
      exec (.actionSelectLap p ch) s =
        .next { s with
          ports := s.ports.set p { q with rd := q.rd + 1 }, selection := sel
          tx := s.tx.modify ch (· ++ serialize 0x3E s.localId q.cmd []), out := .done }) ∧
    (s.Serves p ch q s.params.codes.setLapMax → ∃ lim : Byte, lim.toNat = min v.toNat 50 ∧
      exec (.actionSetLapMax p ch) s =
        .next { s with
          ports := s.ports.set p { q with rd := q.rd + 1 }
          collab := { s.collab with settings := { s.collab.settings with lapMax := lim } }
          tx := s.tx.modify ch (· ++ serialize 0x3E s.localId q.cmd []), out := .done })

/-- R261, R265: the threshold and the debug flag. -/
def Obligations.ThresholdAndDebugAreStored : Prop :=
  ∀ (s : State) (p : PortId) (ch : ChanId) (q : Port) (a b : Byte),
    (s.Serves p ch q s.params.codes.setRssiThreshold → q.Operand [a, b] →
      exec (.actionSetRssiThreshold p ch) s =
        .next { s with
          ports := s.ports.set p { q with rd := q.rd + 2 }
          collab := { s.collab with settings := { s.collab.settings with threshold := b ++ a } }
          tx := s.tx.modify ch (· ++ serialize 0x3E s.localId q.cmd []), out := .done }) ∧
    (s.Serves p ch q s.params.codes.setDebug → q.Operand [a] →
      exec (.actionSetDebug p ch) s =
        .next { s with
          ports := s.ports.set p { q with rd := q.rd + 1 }
          collab := { s.collab with settings := { s.collab.settings with debug := a } }
          tx := s.tx.modify ch (· ++ serialize 0x3E s.localId q.cmd []), out := .done })

/-- R260, R262: the channel with its retune, the filter parameters with their recomputation. The RSSI readings after
the trigger are free, and that the lap selection and the
device state are kept is the model's choice (logs 19, 33). -/
def Obligations.ChannelAndFilterAreStoredAndTrigger : Prop :=
  ∀ (s : State) (p : PortId) (ch : ChanId) (q : Port) (a b c d : Byte),
    (s.Serves p ch q s.params.codes.setChannel → q.Operand [a, b] → ∃ m : Measured,
      m.deviceState = s.collab.measured.deviceState ∧ m.timerState = s.collab.measured.timerState ∧
      m.laps = s.collab.measured.laps ∧
      exec (.actionSetChannel p ch) s =
        .next { s with
          ports := s.ports.set p { q with rd := q.rd + 2 }
          collab := { measured := m, settings := { s.collab.settings with channel := b ++ a } }
          triggers := s.triggers ++ [.retune], fresh := s.fresh + 1
          tx := s.tx.modify ch (· ++ serialize 0x3E s.localId q.cmd []), out := .done }) ∧
    (s.Serves p ch q s.params.codes.setRssiFilter → q.Operand [a, b, c, d] → ∃ m : Measured,
      m.deviceState = s.collab.measured.deviceState ∧ m.timerState = s.collab.measured.timerState ∧
      m.laps = s.collab.measured.laps ∧
      exec (.actionSetRssiFilter p ch) s =
        .next { s with
          ports := s.ports.set p { q with rd := q.rd + 4 }
          collab := { measured := m, settings := { s.collab.settings with filterQ := b ++ a, filterR := d ++ c } }
          triggers := s.triggers ++ [.recompute], fresh := s.fresh + 1
          tx := s.tx.modify ch (· ++ serialize 0x3E s.localId q.cmd []), out := .done })

/-- R240, decision D40: an action whose frame is shorter than its operands has no effect, reports the refused read, and
is answered as the parameter SHORT_ACTION says (log 17). The one action of two operands, "set RSSI filter", is stated
twice: short of its first operand with the others, and, with Q readable and R not, on its own, where its read of Q has
moved the cursor. -/
def Obligations.ShortActionHasNoEffect : Prop :=
  ∀ (s : State) (p : PortId) (ch : ChanId) (q : Port),
    (∀ (i : Instr) (k : Byte) (n : Nat),
      (i, k, n) ∈
        [(Instr.actionSetDeviceId p ch, s.params.codes.setDeviceId, 1),
          (.actionSelectLap p ch, s.params.codes.selectLap, 1), (.actionSetChannel p ch, s.params.codes.setChannel, 2),
          (.actionSetRssiThreshold p ch, s.params.codes.setRssiThreshold, 2),
          (.actionSetRssiFilter p ch, s.params.codes.setRssiFilter, 2),
          (.actionSetLapMinTime p ch, s.params.codes.setLapMinTime, 2),
          (.actionSetLapMax p ch, s.params.codes.setLapMax, 1), (.actionSetDebug p ch, s.params.codes.setDebug, 1)] →
      s.Serves p ch q k → q.len.toNat < q.rd.toNat + n →
      (s.params.shortAction = .noReply →
        exec i s = .next { s with out := .refused .readPastEnd, refusalSeen := true }) ∧
      (s.params.shortAction = .errorReply →
        exec i s =
          .next { s with
            tx := s.tx.modify ch (· ++ serialize s.params.dirError s.localId k [])
            out := .refused .readPastEnd, refusalSeen := true })) ∧
    ∀ a b : Byte, s.Serves p ch q s.params.codes.setRssiFilter → q.Operand [a, b] → q.len.toNat < q.rd.toNat + 4 →
      (s.params.shortAction = .noReply →
        exec (.actionSetRssiFilter p ch) s =
          .next { s with
            ports := s.ports.set p { q with rd := q.rd + 2 }
            out := .refused .readPastEnd, refusalSeen := true }) ∧
      (s.params.shortAction = .errorReply →
        exec (.actionSetRssiFilter p ch) s =
          .next { s with
            ports := s.ports.set p { q with rd := q.rd + 2 }
            tx := s.tx.modify ch (· ++ serialize s.params.dirError s.localId q.cmd [])
            out := .refused .readPastEnd, refusalSeen := true })

/-- R236: a code of neither table is answered with the error reply, and no state changes. -/
def Obligations.UnknownCommandGetsErrorReply : Prop :=
  ∀ (s : State) (p : PortId) (ch : ChanId) (q : Port), s.Holds p q → ch < s.tx.length →
    q.cmd ∉ s.params.codes.queries ++ s.params.codes.actions →
    decode s.env (.dispatch p ch) = .ok (.unknownCommand p ch) ∧
    exec (.unknownCommand p ch) s =
      .next { s with
        tx := s.tx.modify ch (· ++ [0x24, 0x4D, s.params.dirError, s.localId, 0, q.cmd, q.cmd]), out := .done }

/-! ### Decoding -/

/-- R100, R105, R233: for every operation, what the host or the byte source presents for it is decoded as it,
wherever the ports and the codes select its row. The codes' distinctness is R231. -/
def Obligations.DecodeOfEncodeIsTheOperation : Prop :=
  ∀ (e : DecodeEnv) (i : Instr), (e.codes.queries ++ e.codes.actions).Nodup →
    i.wf e.ports.length e.nChans = true → i.fits e = true → decode e (encode i) = .ok i

/-- R100, R105: what is decoded is well formed on the device, its row is the one selected, and it is the operation
the input asks for: no byte, name or operand is dropped. -/
def Obligations.DecodedOperationIsWellFormedAndEncodesBack : Prop :=
  ∀ (e : DecodeEnv) (inp : Input) (i : Instr), decode e inp = .ok i →
    i.wf e.ports.length e.nChans = true ∧ i.fits e = true ∧ encode i = inp

/-- 30_encoding R100 and the opcode table: the words of the four rows the table gives a full match for. -/
def Obligations.TableWordsDecodeToTheirRows : Prop :=
  decodeTableWord 8 0x24 = some (.idleSync 0) ∧ decodeTableWord 8 0x4D = some (.startM 0) ∧
  decodeTableWord 8 0x3C = some (.mDirAction 0) ∧ decodeTableWord 8 0x3E = some (.mDirQuery 0)

/-! ### The step -/

/-- R77, R81, R303: a step takes the oldest input, consumes it and performs the operation it decodes to; without an
input the block is still; an input the decoder rejects is refused; a change of the measured data lands between
operations, and so does a call of the device-state setter of R267, after which the device state is the value set and
nothing else is changed (logs 1, 12, 20, 33). -/
def Obligations.StepPerformsTheDecodedOperation : Prop :=
  ∀ (s : State) (inp : Input) (rest : List Input),
    (s.pending = [] → step s = .next s) ∧
    (s.pending = inp :: rest →
      (∀ i, decode s.env inp = .ok i → step s = exec i { s with pending := rest }) ∧
      (∀ r, (∀ m, inp ≠ .measure m) → (∀ v, inp ≠ .setDeviceState v) → decode s.env inp = .error r → step s = .refused (.undecodable r)) ∧
      (∀ m : Measured, inp = .measure m → ∃ m' : Measured, m'.laps = m.laps.take 50 ∧
        { m' with laps := m.laps } = m ∧
        step s = .next { s with pending := rest, collab := { s.collab with measured := m' } }) ∧
      ∀ v : Byte, inp = .setDeviceState v →
        step s = .next { s with
          pending := rest
          collab := { s.collab with measured := { s.collab.measured with deviceState := v } } })

/-- R40 to R44, R23, with the bounds of R248 and R267 and the canonical buffers: every step keeps the device's
invariant, from every state that meets it. -/
def Obligations.StepKeepsInvariant : Prop :=
  ∀ s t : State, s.Inv → step s = .next t → t.Inv

/-- R41, R120, R287: from a state that meets the invariant no step faults, and a step is refused only for an input
that names nothing the device has, or a relay arm the frame does not select (logs 12, 14). -/
def Obligations.StepNeverFaultsAndRarelyRefuses : Prop :=
  ∀ s : State, s.Inv →
    (∀ f, step s ≠ .fault f) ∧
    ∀ r, step s = .refused r →
      (∃ j inp rest, r = .undecodable j ∧ s.pending = inp :: rest ∧ decode s.env inp = .error j) ∨
      (r = .armNotRequestable ∧ ∃ p ch inp rest, s.pending = inp :: rest ∧
        (decode s.env inp = .ok (.relayPass p ch) ∨ decode s.env inp = .ok (.relayRewrite p ch)))

/-- R33, R290: no step changes the parameters; the sticky mark of a refusal is never cleared, and is set only by a
refusal (logs 7, 9). -/
def Obligations.ParametersAreFixedAndRefusalMarkIsSticky : Prop :=
  ∀ s t : State, step s = .next t → t.params = s.params ∧
    (s.refusalSeen = true → t.refusalSeen = true) ∧
    (s.refusalSeen = false → t.refusalSeen = true → ∃ r, t.out = .refused r)
end

