-- ==== Sys2Proof/Tests/Slice0.lean ====
section
/-! SUPPORT. Tests: ill-formed operations are refused, the decode map, single steps with results taken from the spec's
examples and vectors (the illustrative parameters of 95_test_vectors.md), and a witness for the hypotheses of every
obligation that has some. -/

namespace Sys2Proof.Tests

open Sys2Proof.Machine

/-! ### Small states -/

/-- A device of two ports, port 0 as given. -/
def dev (q : Port) : State where
  ports := [q, Port.reset]
  localId := 1
  tx := [[], []]
  collab := collabReset
  selection := 0
  triggers := []
  pending := []
  params := Params.illustrative
  out := .quiet
  refusalSeen := false
  fresh := 0

/-- A port in a parse state. -/
def inState (st : ParseState) : Port := { Port.reset with state := st }

/-- A port that holds the frame of a header and a payload. -/
def held (d i c : Byte) (pl : List Byte) : Port where
  state := .commandReceived
  dir := d
  targetId := i
  len := BitVec.ofNat 8 pl.length
  cksum := checksum (BitVec.ofNat 8 pl.length) c pl
  buf := pl.zipIdx.map fun e => (e.2, e.1)
  wr := BitVec.ofNat 7 pl.length
  rd := 0
  cmd := c

/-- The end state of T2: "set channel" to 5800 for device 2. -/
def t2 : Port := held 0x3C 2 0x22 [0xA8, 0x16]

/-- A port with two payload bytes declared and `n` stored (T2). -/
def midFrame (n : Nat) : Port := { t2 with state := .headerCmd, wr := BitVec.ofNat 7 n, buf := t2.buf.take n }

/-- Some measured data, with five laps. -/
def fiveLaps : Measured where
  deviceState := 2
  timerState := 3
  laps := List.replicate 5 { time := 123456, raw := 0x0123, filtered := 0x0120 }
  rssiRaw := 0x0111
  rssiMin := 0x0222
  rssiMax := 0x0333
  rssiFiltered := 0x0444

/-- A device whose collaborator has measured something. -/
def busy (q : Port) : State := { dev q with collab := { (dev q).collab with measured := fiveLaps } }

/-- What the next state of an outcome shows, if there is one. -/
def shows {α : Type} (r : Res) (f : State → α) : Option α :=
  match r with
  | .next s => some (f s)
  | _ => none

/-- The refusal of an outcome, if it is one. -/
def refusal (r : Res) : Option Refusal :=
  match r with
  | .refused x => some x
  | _ => none

/-- Port 0 of the next state. -/
def port0 (r : Res) : Option Port := (shows r fun s => s.ports[0]?).join

/-- What is emitted on channel 0. -/
def sent (r : Res) : Option (List Byte) := (shows r fun s => s.tx[0]?).join

/-- What the outcome reports. -/
def said (r : Res) : Option Output := shows r State.out

/-! ### Well-formedness: a term each check refuses -/

theorem test_wf_missing_port_byte_rows :
    ([.idleSync 2, .idleReject 2 0, .startM 2, .startResync 2 0, .mDirAction 2, .mDirQuery 2, .mResync 2 0,
      .arrowId 2 0, .idLenOk 2 0, .idLenReject 2 65, .sizeCmd 2 0, .cmdPayload 2 0, .cmdTrailerOk 2 0,
      .cmdTrailerBad 2 0, .doneDrop 2 0] : List Instr).all (fun i => !i.wf 2 2) = true := by decide

theorem test_wf_missing_port_control_rows :
    ([.frameView 2, .portRelease 2, .hostRead8 2, .hostRead16 2, .hostRead32 2, .route 2, .relay 2 0, .relayPass 2 0,
      .relayRewrite 2 0] : List Instr).all (fun i => !i.wf 2 2) = true := by decide

theorem test_wf_missing_port_command_rows :
    (Instr.unknownCommand 2 0 ::
      (queryTable Codes.illustrative ++ actionTable Codes.illustrative).map
        fun (e : Byte × (PortId → ChanId → Instr)) => e.2 2 0).all (fun (i : Instr) => !i.wf 2 2) = true := by decide

theorem test_wf_missing_channel :
    (([.unknownCommand 0 2, .txReply 2 0 [], .txError 2 0, .relay 0 2, .relayPass 0 2, .relayRewrite 0 2] : List Instr) ++
      (queryTable Codes.illustrative ++ actionTable Codes.illustrative).map
        fun (e : Byte × (PortId → ChanId → Instr)) => e.2 0 2).all (fun (i : Instr) => !i.wf 2 2) = true := by decide

theorem test_wf_byte_outside_its_class :
    ([.idleReject 0 0x24, .startResync 0 0x4D, .mResync 0 0x3C, .mResync 0 0x3E, .idLenOk 0 65, .idLenReject 0 64] :
      List Instr).all (fun i => !i.wf 2 2) = true := by decide

theorem test_wf_accepts_the_boundaries :
    ([.idleReject 0 0x25, .startResync 0 0x24, .mResync 1 0x3D, .idLenOk 0 64, .idLenReject 0 65, .relay 1 1,
      .queryVersion 1 1] : List Instr).all (fun i => i.wf 2 2) = true := by decide

/-! ### Decoding: words written out from R100, R105 and the illustrative codes -/

/-- The context of port 0: a parse state and, for `HeaderCmd`, `wr`, `len` and `cksum`. -/
def env (st : ParseState) (wr : Cursor := 0) (len cksum cmd : Byte := 0) : DecodeEnv where
  ports := [{ state := st, wr := wr, len := len, cksum := cksum, cmd := cmd }]
  nChans := 1
  codes := Codes.illustrative

theorem test_decode_idle :
    decode (env .idle) (.byte 0 0b00100100) = .ok (.idleSync 0) ∧
    decode (env .idle) (.byte 0 0b01001101) = .ok (.idleReject 0 0x4D) := ⟨rfl, rfl⟩

theorem test_decode_frame_start :
    decode (env .frameStart) (.byte 0 0b01001101) = .ok (.startM 0) ∧
    decode (env .frameStart) (.byte 0 0b00100100) = .ok (.startResync 0 0x24) := ⟨rfl, rfl⟩

theorem test_decode_header_m :
    decode (env .headerM) (.byte 0 0b00111100) = .ok (.mDirAction 0) ∧
    decode (env .headerM) (.byte 0 0b00111110) = .ok (.mDirQuery 0) ∧
    decode (env .headerM) (.byte 0 0b00111101) = .ok (.mResync 0 0x3D) := ⟨rfl, rfl, rfl⟩

theorem test_decode_header :
    decode (env .headerArrow) (.byte 0 0b11111111) = .ok (.arrowId 0 0xFF) ∧
    decode (env .headerDeviceId) (.byte 0 0b01000000) = .ok (.idLenOk 0 64) ∧
    decode (env .headerDeviceId) (.byte 0 0b01000001) = .ok (.idLenReject 0 65) ∧
    decode (env .headerSize) (.byte 0 0b00100010) = .ok (.sizeCmd 0 0x22) := ⟨rfl, rfl, rfl, rfl⟩

theorem test_decode_payload_and_trailer :
    decode (env .headerCmd 1 2 0x9E) (.byte 0 0b10011110) = .ok (.cmdPayload 0 0x9E) ∧
    decode (env .headerCmd 2 2 0x9E) (.byte 0 0b10011110) = .ok (.cmdTrailerOk 0 0x9E) ∧
    decode (env .headerCmd 2 2 0x9E) (.byte 0 0b10011111) = .ok (.cmdTrailerBad 0 0x9F) ∧
    decode (env .commandReceived) (.byte 0 0b00100100) = .ok (.doneDrop 0 0x24) := ⟨rfl, rfl, rfl, rfl⟩

theorem test_decode_requests :
    decode (env .idle) (.request { op := .frameView }) = .ok (.frameView 0) ∧
    decode (env .idle) (.request { op := .portRelease }) = .ok (.portRelease 0) ∧
    decode (env .idle) (.request { op := .hostRead8 }) = .ok (.hostRead8 0) ∧
    decode (env .idle) (.request { op := .hostRead16 }) = .ok (.hostRead16 0) ∧
    decode (env .idle) (.request { op := .hostRead32 }) = .ok (.hostRead32 0) ∧
    decode (env .idle) (.request { op := .setLocalId, val := 2 }) = .ok (.setLocalId 2) ∧
    decode (env .idle) (.request { op := .getLocalId }) = .ok .getLocalId ∧
    decode (env .idle) (.request { op := .txReply, val := 1, payload := [1, 2] }) = .ok (.txReply 0 1 [1, 2]) ∧
    decode (env .idle) (.request { op := .txError, val := 0x7F }) = .ok (.txError 0 0x7F) ∧
    decode (env .idle) (.request { op := .route }) = .ok (.route 0) ∧
    decode (env .idle) (.request { op := .relay }) = .ok (.relay 0 0) ∧
    decode (env .idle) (.request { op := .relayPass }) = .ok (.relayPass 0 0) ∧
    decode (env .idle) (.request { op := .relayRewrite }) = .ok (.relayRewrite 0 0) ∧
    decode (env .idle) (.request { op := .reset }) = .ok .reset :=
  ⟨rfl, rfl, rfl, rfl, rfl, rfl, rfl, rfl, rfl, rfl, rfl, rfl, rfl, rfl⟩

/-- The command a code selects. -/
def command (c : Byte) : Except Reject Instr := decode (env .commandReceived 0 0 0 c) (.dispatch 0 0)

theorem test_decode_queries :
    command 0x01 = .ok (.queryVersion 0 0) ∧ command 0x02 = .ok (.queryDeviceId 0 0) ∧
    command 0x03 = .ok (.queryStatus 0 0) ∧ command 0x04 = .ok (.queryChannel 0 0) ∧
    command 0x05 = .ok (.queryRssi 0 0) ∧ command 0x06 = .ok (.queryRssiThreshold 0 0) ∧
    command 0x07 = .ok (.queryRssiFilter 0 0) ∧ command 0x08 = .ok (.queryLapMax 0 0) ∧
    command 0x09 = .ok (.queryLapMinTime 0 0) ∧ command 0x0A = .ok (.queryLastLap 0 0) ∧
    command 0x0B = .ok (.querySelectedLap 0 0) ∧ command 0x0C = .ok (.queryDebug 0 0) :=
  ⟨rfl, rfl, rfl, rfl, rfl, rfl, rfl, rfl, rfl, rfl, rfl, rfl⟩

theorem test_decode_actions :
    command 0x10 = .ok (.actionReset 0 0) ∧ command 0x11 = .ok (.actionCalibrate 0 0) ∧
    command 0x12 = .ok (.actionStart 0 0) ∧ command 0x13 = .ok (.actionActivate 0 0) ∧
    command 0x14 = .ok (.actionDeactivate 0 0) ∧ command 0x20 = .ok (.actionSetDeviceId 0 0) ∧
    command 0x23 = .ok (.actionSelectLap 0 0) ∧ command 0x22 = .ok (.actionSetChannel 0 0) ∧
    command 0x24 = .ok (.actionSetRssiThreshold 0 0) ∧ command 0x25 = .ok (.actionSetRssiFilter 0 0) ∧
    command 0x26 = .ok (.actionSetLapMinTime 0 0) ∧ command 0x27 = .ok (.actionSetLapMax 0 0) ∧
    command 0x28 = .ok (.actionSetDebug 0 0) ∧ command 0x29 = .ok (.actionPersist 0 0) ∧
    command 0x7F = .ok (.unknownCommand 0 0) :=
  ⟨rfl, rfl, rfl, rfl, rfl, rfl, rfl, rfl, rfl, rfl, rfl, rfl, rfl, rfl, rfl⟩

theorem test_decode_rejects_by_name :
    decode (env .idle) (.byte 1 0x24) = .error .noSuchPort ∧
    decode (env .idle) (.request { op := .relay, chan := 1 }) = .error .noSuchChannel ∧
    decode (env .idle) (.request { op := .route, val := 1 }) = .error .strayOperand ∧
    decode (env .idle) (.dispatch 0 1) = .error .noSuchChannel ∧
    decode (env .idle) (.measure fiveLaps) = .error .notAnOperation ∧
    decode (env .idle) (.setDeviceState 7) = .error .notAnOperation := ⟨rfl, rfl, rfl, rfl, rfl, rfl⟩

theorem test_table_words_run_after_reset :
    shows (step (State.reset.withFetchWord 8 0x24)) State.out = some (.event 0 .consumed) ∧
    shows (step (State.reset.withFetchWord 8 0x4D)) State.out = some (.event 0 .consumed) ∧
    shows (step (State.reset.withFetchWord 8 0x3C)) (fun s => s.ports[0]?.map Port.dir) = some (some 0x3C) ∧
    shows (step (State.reset.withFetchWord 8 0x3E)) (fun s => s.ports[0]?.map Port.dir) = some (some 0x3E) ∧
    shows (step (State.reset.withFetchWord 8 0x00)) (fun s => s.ports[0]?.map Port.state) =
      some (some .headerDeviceId) := ⟨rfl, rfl, rfl, rfl, rfl⟩

/-! ### Byte steps: the examples of R121 to R134 -/

theorem test_idle_sync : port0 (exec (.idleSync 0) (dev Port.reset)) = some (inState .frameStart) := by decide

theorem test_idle_reject :
    port0 (exec (.idleReject 0 0x4D) (dev Port.reset)) = some Port.reset ∧
    said (exec (.idleReject 0 0x4D) (dev Port.reset)) = some (.event 0 .rejected) := by decide

theorem test_start_m : port0 (exec (.startM 0) (dev (inState .frameStart))) = some (inState .headerM) := by decide

/-- The second `$` of T4. -/
theorem test_start_resync : port0 (exec (.startResync 0 0x24) (dev (inState .frameStart))) = some Port.reset := by decide

theorem test_m_dir_action :
    port0 (exec (.mDirAction 0) (dev (inState .headerM))) = some { inState .headerArrow with dir := 0x3C } := by decide

theorem test_m_dir_query :
    port0 (exec (.mDirQuery 0) (dev (inState .headerM))) = some { inState .headerArrow with dir := 0x3E } := by decide

/-- The error marker of T5. -/
theorem test_m_resync :
    port0 (exec (.mResync 0 0x21) (dev (inState .headerM))) = some Port.reset ∧
    said (exec (.mResync 0 0x21) (dev (inState .headerM))) = some (.event 0 .resync) := by decide

theorem test_arrow_id :
    port0 (exec (.arrowId 0 0xFF) (dev (inState .headerArrow))) =
      some { inState .headerDeviceId with targetId := 0xFF } := by decide

/-- R128's example, on a port with leftovers. -/
theorem test_id_len_ok :
    port0 (exec (.idLenOk 0 2) (dev { inState .headerDeviceId with len := 9, cksum := 7, wr := 9, rd := 3 })) =
      some { inState .headerSize with len := 2, cksum := 2, wr := 0, rd := 0 } := by decide

/-- T6: 65 is rejected, nothing is written. -/
theorem test_id_len_reject :
    port0 (exec (.idLenReject 0 65) (dev { inState .headerDeviceId with len := 9 })) =
      some { Port.reset with len := 9 } ∧
    refusal (exec (.idLenReject 0 64) (dev (inState .headerDeviceId))) = some .ruleNotSelected := by decide

theorem test_size_cmd :
    port0 (exec (.sizeCmd 0 0x22) (dev { inState .headerSize with len := 2, cksum := 2 })) =
      some { inState .headerCmd with len := 2, cksum := 0x20, cmd := 0x22 } := by decide

theorem test_cmd_payload :
    port0 (exec (.cmdPayload 0 0xA8) (dev { inState .headerCmd with len := 2, cksum := 0x20 })) =
      some { inState .headerCmd with len := 2, cksum := 0x88, wr := 1, buf := [(0, 0xA8)] } := by decide

theorem test_cmd_trailer_ok :
    port0 (exec (.cmdTrailerOk 0 0x9E) (dev (midFrame 2))) = some t2 ∧
    said (exec (.cmdTrailerOk 0 0x9E) (dev (midFrame 2))) = some (.event 0 .frameDone) := by decide

theorem test_cmd_trailer_bad :
    port0 (exec (.cmdTrailerBad 0 0x24) (dev (midFrame 2))) = some { t2 with state := .idle } ∧
    said (exec (.cmdTrailerBad 0 0x24) (dev (midFrame 2))) = some (.event 0 .checksumDiscard) := by decide

theorem test_done_drop :
    port0 (exec (.doneDrop 0 0x24) (dev t2)) = some t2 ∧
    said (exec (.doneDrop 0 0x24) (dev t2)) = some (.event 0 .dropped) := by decide

/-! ### Control operations: the examples of 41, 42, 43 and 70 -/

theorem test_frame_view :
    said (exec (.frameView 0) (dev t2)) =
      some (.view { cmd := 0x22, targetId := 2, dir := 0x3C, len := 2, payload := [0xA8, 0x16] }) := by decide

theorem test_port_release :
    port0 (exec (.portRelease 0) (dev t2)) = some { t2 with state := .idle } ∧
    said (exec (.portRelease 0) (dev (midFrame 1))) = some (.refused .noFrame) := by decide

/-- T20. -/
theorem test_host_read8 :
    said (exec (.hostRead8 0) (dev t2)) = some (.byte 0xA8) ∧
    said (exec (.hostRead8 0) (dev { t2 with rd := 2 })) = some (.refused .readPastEnd) := by decide

/-- T21. -/
theorem test_host_read16 :
    said (exec (.hostRead16 0) (dev t2)) = some (.half 5800) ∧
    port0 (exec (.hostRead16 0) (dev { t2 with rd := 1 })) = some { t2 with rd := 1 } := by decide

/-- T22. -/
theorem test_host_read32 :
    said (exec (.hostRead32 0) (dev (held 0x3C 1 0x31 [0x78, 0x56, 0x34, 0x12]))) = some (.word 0x12345678) := by decide

theorem test_set_local_id : shows (exec (.setLocalId 0) (dev t2)) State.localId = some 0 := by decide

theorem test_get_local_id : said (exec .getLocalId { dev t2 with localId := 9 }) = some (.byte 9) := by decide

/-- R183's example. -/
theorem test_tx_reply :
    sent (exec (.txReply 0 0x01 [1, 2, 3]) (dev t2)) = some [0x24, 0x4D, 0x3E, 1, 3, 1, 1, 2, 3, 2] ∧
    said (exec (.txReply 0 0x01 (List.replicate 65 0)) (dev t2)) = some (.refused .replyTooLong) := by decide

/-- R184's example. -/
theorem test_tx_error :
    sent (exec (.txError 0 0x7F) (dev t2)) = some [0x24, 0x4D, 0x21, 1, 0, 0x7F, 0x7F] := by decide

/-- P1 and P2: a frame for this device, a wildcard frame, a frame for another. -/
theorem test_route :
    said (exec (.route 0) { dev t2 with localId := 2 }) = some (.verdict ⟨true, false, .dispatchFirst⟩) ∧
    said (exec (.route 0) (dev { t2 with targetId := 0 })) = some (.verdict ⟨true, true, .dispatchFirst⟩) ∧
    said (exec (.route 0) (dev t2)) = some (.verdict ⟨false, true, .dispatchFirst⟩) := by decide

/-- R211's example, and T47: with `>` the frame passes unchanged. -/
theorem test_relay :
    sent (exec (.relay 0 0) (dev (held 0x3C 0 0x20 [0]))) = some [0x24, 0x4D, 0x3C, 0, 1, 0x20, 2, 0x23] ∧
    sent (exec (.relay 0 0) (dev (held 0x3E 0 0x20 [5]))) = some [0x24, 0x4D, 0x3E, 0, 1, 0x20, 5, 0x24] := by decide

/-- T2's frame passes byte for byte, whatever the read cursor is. -/
theorem test_relay_pass :
    sent (exec (.relayPass 0 0) (dev { t2 with rd := 2 })) = some [0x24, 0x4D, 0x3C, 2, 2, 0x22, 0xA8, 0x16, 0x9E] ∧
    refusal (exec (.relayPass 0 0) (dev (held 0x3C 0 0x20 [0]))) = some .armNotRequestable := by decide

/-- T45 (length 3, target 5) and T46 (the wrap at 255). -/
theorem test_relay_rewrite :
    sent (exec (.relayRewrite 0 0) { dev (held 0x3C 5 0x20 [9, 9, 9]) with localId := 7 }) =
      some [0x24, 0x4D, 0x3C, 5, 1, 0x20, 8, 0x29] ∧
    sent (exec (.relayRewrite 0 0) { dev (held 0x3C 0 0x20 [0xFF]) with localId := 0xFF }) =
      some [0x24, 0x4D, 0x3C, 0, 1, 0x20, 0, 0x21] := by decide

/-- T61, and R312 with R54: nothing is on the channels afterwards. -/
theorem test_reset :
    shows (exec .reset { dev t2 with tx := [[0xAA], [0xBB]] }) State.tx = some [[], []] ∧
    port0 (exec .reset { dev t2 with localId := 5 }) = some { t2 with state := .idle } ∧
    shows (exec .reset { dev t2 with localId := 5 }) State.localId = some 1 := by decide

/-! ### Commands: the vectors of 95_test_vectors, part 2.5, and S4 to S8 -/

/-- S4 and T55. -/
theorem test_query_version :
    sent (exec (.queryVersion 0 0) (dev (held 0x3E 1 0x01 [0xAA, 0xBB, 0xCC]))) =
      some [0x24, 0x4D, 0x3E, 1, 3, 1, 1, 2, 3, 2] := by decide

/-- T54. -/
theorem test_query_device_id :
    sent (exec (.queryDeviceId 0 0) { dev (held 0x3E 0 0x02 []) with localId := 7 }) =
      some [0x24, 0x4D, 0x3E, 7, 1, 2, 7, 4] := by decide

theorem test_query_status :
    sent (exec (.queryStatus 0 0) (busy (held 0x3E 1 0x03 []))) = some [0x24, 0x4D, 0x3E, 1, 2, 3, 2, 3, 0] := by decide

/-- P5, step 5. -/
theorem test_query_channel :
    sent (exec (.queryChannel 0 0)
      { dev (held 0x3E 2 0x04 []) with
        localId := 2
        collab := { collabReset with settings := { collabReset.settings with channel := 5800 } } }) =
      some [0x24, 0x4D, 0x3E, 2, 2, 4, 0xA8, 0x16, 0xB8] := by decide

theorem test_query_rssi :
    sent (exec (.queryRssi 0 0) (busy (held 0x3E 1 0x05 []))) =
      some [0x24, 0x4D, 0x3E, 1, 8, 5, 0x11, 1, 0x22, 2, 0x33, 3, 0x44, 4, 0x4D] := by decide

theorem test_query_rssi_threshold :
    sent (exec (.queryRssiThreshold 0 0)
      { dev (held 0x3E 1 0x06 []) with
        collab := { collabReset with settings := { collabReset.settings with threshold := 0x0201 } } }) =
      some [0x24, 0x4D, 0x3E, 1, 2, 6, 1, 2, 7] := by decide

theorem test_query_rssi_filter :
    sent (exec (.queryRssiFilter 0 0)
      { dev (held 0x3E 1 0x07 []) with
        collab := { collabReset with settings := { collabReset.settings with filterQ := 0x0201, filterR := 0x0403 } } }) =
      some [0x24, 0x4D, 0x3E, 1, 4, 7, 1, 2, 3, 4, 7] := by decide

/-- S6. -/
theorem test_query_lap_max :
    sent (exec (.queryLapMax 0 0)
      { dev (held 0x3E 1 0x08 []) with
        collab := { collabReset with settings := { collabReset.settings with lapMax := 50 } } }) =
      some [0x24, 0x4D, 0x3E, 1, 1, 8, 0x32, 0x3B] := by decide

/-- T52: 5999 ms are reported as 5 s. -/
theorem test_query_lap_min_time :
    sent (exec (.queryLapMinTime 0 0)
      { dev (held 0x3E 1 0x09 []) with
        collab := { collabReset with settings := { collabReset.settings with minLapMs := 5999 } } }) =
      some [0x24, 0x4D, 0x3E, 1, 2, 9, 5, 0, 0x0E] := by decide

/-- T53, with three laps and with none. -/
theorem test_query_last_lap :
    sent (exec (.queryLastLap 0 0)
      { busy (held 0x3E 1 0x0A []) with
        collab := { collabReset with measured := { fiveLaps with laps := fiveLaps.laps.take 3 } } }) =
      some [0x24, 0x4D, 0x3E, 1, 9, 0x0A, 3, 0x40, 0xE2, 1, 0, 0x23, 1, 0x20, 1, 0xA0] ∧
    sent (exec (.queryLastLap 0 0) (dev (held 0x3E 1 0x0A []))) =
      some [0x24, 0x4D, 0x3E, 1, 9, 0x0A, 0, 0, 0, 0, 0, 0, 0, 0, 0, 3] := by decide

/-- The record of T53 as the selected one: bytes 7 to 14 of the reply, the first payload byte being free. -/
theorem test_query_selected_lap :
    (sent (exec (.querySelectedLap 0 0) { busy (held 0x3E 1 0x0B []) with selection := 4 })).map
      (fun bs => (bs.drop 7).take 8) = some [0x40, 0xE2, 1, 0, 0x23, 1, 0x20, 1] := rfl

theorem test_query_debug :
    sent (exec (.queryDebug 0 0) (busy (held 0x3E 1 0x0C []))) =
      some [0x24, 0x4D, 0x3E, 1, 7, 0x0C, 2, 3, 5, 0x11, 1, 0x44, 4, 0x5F] := by decide

/-- S8. -/
theorem test_unknown_command :
    sent (exec (.unknownCommand 0 0) (dev (held 0x3E 1 0x7F []))) = some [0x24, 0x4D, 0x21, 1, 0, 0x7F, 0x7F] := by decide

theorem test_triggers :
    shows (exec (.actionReset 0 0) (dev (held 0x3C 1 0x10 []))) State.triggers = some [.reset] ∧
    shows (exec (.actionCalibrate 0 0) (dev (held 0x3C 1 0x11 []))) State.triggers = some [.calibrate] ∧
    shows (exec (.actionStart 0 0) (dev (held 0x3C 1 0x12 []))) State.triggers = some [.start] ∧
    shows (exec (.actionActivate 0 0) (dev (held 0x3C 1 0x13 []))) State.triggers = some [.activate] ∧
    shows (exec (.actionDeactivate 0 0) (dev (held 0x3C 1 0x14 []))) State.triggers = some [.deactivate] ∧
    shows (exec (.actionPersist 0 0) (dev (held 0x3C 1 0x29 []))) State.triggers = some [.persist] :=
  ⟨rfl, rfl, rfl, rfl, rfl, rfl⟩

theorem test_trigger_reply :
    sent (exec (.actionReset 0 0) (dev (held 0x3C 1 0x10 []))) = some [0x24, 0x4D, 0x3E, 1, 0, 0x10, 0x10] := rfl

/-- P3: device B takes the id 2 and answers with it; device A ignores the 0. -/
theorem test_action_set_device_id :
    sent (exec (.actionSetDeviceId 0 0) (dev (held 0x3C 0 0x20 [2]))) = some [0x24, 0x4D, 0x3E, 2, 0, 0x20, 0x20] ∧
    shows (exec (.actionSetDeviceId 0 0) (dev (held 0x3C 0 0x20 [0]))) State.localId = some 1 := by decide

/-- S5, and T50 with no lap. -/
theorem test_action_select_lap :
    shows (exec (.actionSelectLap 0 0) (busy (held 0x3C 1 0x23 [9]))) State.selection = some 5 ∧
    shows (exec (.actionSelectLap 0 0) (dev (held 0x3C 1 0x23 [9]))) State.selection = some 0 := by decide

/-- P1, steps 4 and 5, and T56. -/
theorem test_action_set_channel :
    shows (exec (.actionSetChannel 0 0) (dev t2)) (fun s => s.collab.settings.channel) = some 5800 ∧
    sent (exec (.actionSetChannel 0 0) { dev (held 0x3C 2 0x22 [0xA8]) with localId := 2 }) =
      some [0x24, 0x4D, 0x21, 2, 0, 0x22, 0x22] := ⟨rfl, rfl⟩

theorem test_action_set_rssi_threshold :
    shows (exec (.actionSetRssiThreshold 0 0) (dev (held 0x3C 1 0x24 [1, 2]))) (fun s => s.collab.settings.threshold) =
      some 0x0201 := by decide

theorem test_action_set_rssi_filter :
    shows (exec (.actionSetRssiFilter 0 0) (dev (held 0x3C 1 0x25 [1, 2, 3, 4])))
      (fun s => (s.collab.settings.filterQ, s.collab.settings.filterR)) = some (0x0201, 0x0403) ∧
    shows (exec (.actionSetRssiFilter 0 0) (dev (held 0x3C 1 0x25 [1, 2, 3]))) (fun s => s.collab) =
      some collabReset := ⟨rfl, rfl⟩

/-- T52: 5 s and 65535 s. -/
theorem test_action_set_lap_min_time :
    shows (exec (.actionSetLapMinTime 0 0) (dev (held 0x3C 1 0x26 [5, 0]))) (fun s => s.collab.settings.minLapMs) =
      some 5000 ∧
    shows (exec (.actionSetLapMinTime 0 0) (dev (held 0x3C 1 0x26 [0xFF, 0xFF])))
      (fun s => s.collab.settings.minLapMs) = some 65535000 := by decide

/-- T51. -/
theorem test_action_set_lap_max :
    shows (exec (.actionSetLapMax 0 0) (dev (held 0x3C 1 0x27 [49]))) (fun s => s.collab.settings.lapMax) = some 49 ∧
    shows (exec (.actionSetLapMax 0 0) (dev (held 0x3C 1 0x27 [255]))) (fun s => s.collab.settings.lapMax) =
      some 50 := by decide

theorem test_action_set_debug :
    shows (exec (.actionSetDebug 0 0) (dev (held 0x3C 1 0x28 [7]))) (fun s => s.collab.settings.debug) = some 7 := by
  decide

/-! ### Steps -/

theorem test_step_takes_the_oldest_input :
    shows (step { dev Port.reset with pending := [.byte 1 0x24, .byte 0 0x24] }) (fun s => (s.out, s.pending)) =
      some (.event 1 .consumed, [.byte 0 0x24]) := by decide

theorem test_step_bounds_what_is_measured :
    shows (step { dev Port.reset with pending := [.measure { fiveLaps with laps := List.replicate 51 ⟨0, 0, 0⟩ }] })
      (fun s => s.collab.measured.laps.length) = some 50 := by decide

/-- R267's setter and R243's reply: the device state that was set is the one reported. -/
theorem test_step_sets_device_state :
    shows (step { busy Port.reset with pending := [.setDeviceState 7] }) (fun s => s.collab.measured) =
      some { fiveLaps with deviceState := 7 } ∧
    sent (exec (.queryStatus 0 0) ((busy (held 0x3E 1 0x03 [])).setDeviceState 7)) =
      some [0x24, 0x4D, 0x3E, 1, 2, 3, 7, 3, 5] := by decide

/-! ### Witnesses: states and operands that meet the hypotheses of an obligation, clause by clause -/

/-- A port that declares and holds `n` payload bytes of the value `v`, its last trailer in. -/
def full (n : Nat) (v : Byte) : Port := held 0x3C 2 0x22 (List.replicate n v)

/-- The same before the trailer. -/
def untrailed (n : Nat) (v : Byte) : Port := { full n v with state := .headerCmd }

/-- A device as `dev`, with inputs. -/
def given (q : Port) (ins : List Input) : State := { dev q with pending := ins }

/-- A device that applies a zero id, as the chain law asks. -/
def applying : State := { dev Port.reset with params := { Params.illustrative with setIdZero := .apply } }

/-- Every state `dev` builds has its port 0, whatever the port. -/
theorem witness_port (q : Port) : (dev q).ports[0]? = some q := rfl

theorem witness_IdleAndFrameStartByteSteps :
    (inState .idle).state = .idle ∧ (0x24 : Byte) = 0x24 ∧ (0x25 : Byte) ≠ 0x24 ∧
    (inState .frameStart).state = .frameStart ∧ (0x4D : Byte) = 0x4D ∧ (0x24 : Byte) ≠ 0x4D ∧
    (dev (inState .idle)).ports[0]? = some (inState .idle) ∧
    (dev (inState .frameStart)).ports[0]? = some (inState .frameStart) := by decide

theorem witness_DirectionAndTargetIdByteSteps :
    (inState .headerM).state = .headerM ∧ (0x3D : Byte) ≠ 0x3C ∧ (0x3D : Byte) ≠ 0x3E ∧
    (inState .headerArrow).state = .headerArrow ∧ (dev (inState .headerM)).ports[0]? = some (inState .headerM) ∧
    (dev (inState .headerArrow)).ports[0]? = some (inState .headerArrow) := by decide

theorem witness_LengthAndCommandByteSteps :
    (inState .headerDeviceId).state = .headerDeviceId ∧ (64 : Byte).toNat ≤ 64 ∧ 64 < (65 : Byte).toNat ∧
    (inState .headerSize).state = .headerSize ∧
    (dev (inState .headerDeviceId)).ports[0]? = some (inState .headerDeviceId) ∧
    (dev (inState .headerSize)).ports[0]? = some (inState .headerSize) := by decide

/-- The last payload byte of the longest frame, stored at index 63. -/
theorem witness_PayloadByteStepStoresAtWriteCursor :
    (dev { untrailed 64 0xFF with wr := 63 }).ports[0]? = some { untrailed 64 0xFF with wr := 63 } ∧
    (untrailed 64 0xFF).state = .headerCmd ∧ (untrailed 64 0xFF).len.toNat ≤ 64 ∧
    (63 : Cursor).toNat < (untrailed 64 0xFF).len.toNat := by decide

/-- The trailer of the shortest and of the longest frame, right and wrong. -/
theorem witness_TrailerByteSteps :
    ([untrailed 0 0, untrailed 64 0xFF].all fun q =>
      q.state == .headerCmd && q.wr.toNat == q.len.toNat && (q.cksum ^^^ 1) != q.cksum) = true ∧
    (untrailed 0 0).cksum = 0x22 ∧ (untrailed 64 0xFF).cksum = 0x62 := by decide

theorem witness_HeldFrameDropsEveryByte :
    (given t2 [.byte 0 0x24]).Holds 0 t2 ∧ (given t2 [.byte 0 0x24]).pending = .byte 0 0x24 :: [] := by decide

/-- A device holding the frame of T2, and one before the trailer of the longest frame. -/
theorem witness_Inv : (dev t2).Inv ∧ (dev (untrailed 64 0xFF)).Inv :=
  ⟨⟨by decide, by decide, rfl, by decide, by decide⟩, ⟨by decide, by decide, rfl, by decide, by decide⟩⟩

theorem witness_OperationsRunExactlyWhereSelected :
    (Instr.cmdTrailerOk 0 0x62).wf 2 2 = true ∧ (Instr.cmdTrailerOk 0 0x62).fits (dev (untrailed 64 0)).env = true ∧
    (Instr.actionSetChannel 0 1).wf 2 2 = true ∧ (Instr.actionSetChannel 0 1).fits (dev t2).env = true ∧
    (Instr.queryVersion 0 1).wf 2 2 = true ∧ (Instr.queryVersion 0 1).fits (dev t2).env = false ∧
    t2.state = .commandReceived ∧ (Instr.idLenOk 0 65).wf 2 2 = false ∧ (Instr.relay 2 0).wf 2 2 = false := by decide

/-- Both outcomes of `rx_step`; the fault needs a cursor no run reaches. -/
theorem witness_StepOnAByteIsRxStep :
    rxStep Port.reset 0x24 = .ok (inState .frameStart, .consumed) ∧
    rxStep { untrailed 0 0 with len := 100, wr := 64 } 0 = .error .bufferIndex := by decide

theorem witness_ByteStepsTouchOnlyTheirPort :
    encode (.cmdPayload 0 0xA8) = .byte 0 0xA8 ∧
    shows (exec (.cmdPayload 0 0xA8) (dev (midFrame 1))) State.out = some (.event 0 .consumed) := by decide

theorem witness_FramingFailureWritesOnlyTheParseState :
    said (step (given (inState .frameStart) [.byte 0 0x24])) = some (.event 0 .resync) ∧
    said (step (given (inState .headerDeviceId) [.byte 0 65])) = some (.event 0 .lengthReject) ∧
    said (step (given (midFrame 2) [.byte 0 0x9F])) = some (.event 0 .checksumDiscard) := by decide

theorem witness_WellFormedFrameIsAccepted :
    Port.reset.state = .idle ∧ (List.replicate 64 (0 : Byte)).length ≤ 64 ∧ ([] : List Byte).length ≤ 64 := by decide

/-- Noise, then the frame of T2. -/
theorem witness_OnlyWellFormedFramesAreAccepted :
    rxFeed Port.reset ([0x00, 0x24, 0x24] ++ [0x24, 0x4D, 0x3C, 2, 2, 0x22, 0xA8, 0x16, 0x9E]) =
      .ok (t2, [.rejected, .consumed, .resync, .consumed, .consumed, .consumed, .consumed, .consumed, .consumed,
        .consumed, .consumed] ++ [.frameDone]) := by decide

theorem witness_FlippedBitAfterLengthIsDiscarded :
    Port.reset.state = .idle ∧ ([0xA8, 0x16] : List Byte).length ≤ 64 ∧ 5 ≤ 8 ∧
    8 < 7 + ([0xA8, 0x16] : List Byte).length ∧ 7 < 8 := by decide

theorem witness_OversizeLengthWritesNothingBehindTheGuard :
    Port.reset.state = .idle ∧ 64 < (65 : Byte).toNat ∧ 64 < (255 : Byte).toNat := by decide

theorem witness_BytesOfTwoPortsCommute :
    (0 : PortId) ≠ 1 ∧ said (steps 2 (given (midFrame 1) [.byte 0 0x16, .byte 1 0x24])) =
      some (.event 1 .consumed) := by decide

theorem witness_FrameViewShowsTheHeldFrame :
    (full 64 0xFF).state = .commandReceived ∧ (full 64 0xFF).Carries (List.replicate 64 0xFF) ∧
    (full 0 0).Carries [] ∧ (midFrame 1).state ≠ .commandReceived := by decide

theorem witness_ReleaseReturnsThePortToIdle : (dev t2).Holds 0 t2 := by decide

/-- Each width at the end of the longest payload, and one byte past it. -/
theorem witness_HostReadsReturnLittleEndianAndAdvance :
    (full 64 1).state = .commandReceived ∧ ({ full 64 1 with rd := 63 } : Port).Operand [1] ∧
    ({ full 64 1 with rd := 62 } : Port).Operand [1, 1] ∧ ({ full 64 1 with rd := 60 } : Port).Operand [1, 1, 1, 1] ∧
    64 < (64 : Cursor).toNat + 1 ∧ 64 < (63 : Cursor).toNat + 2 ∧ 64 < (61 : Cursor).toNat + 4 ∧
    (full 64 1).len.toNat = 64 ∧ (midFrame 1).state ≠ .commandReceived := by decide

theorem witness_WideReadIsTwoNarrowReads :
    shows (exec (.hostRead8 0) (dev t2)) id = some { dev { t2 with rd := 1 } with out := .byte 0xA8 } ∧
    said (exec (.hostRead8 0) { dev { t2 with rd := 1 } with out := .byte 0xA8 }) = some (.byte 0x16) ∧
    shows (exec (.hostRead16 0) (dev (full 4 1))) id = some { dev { full 4 1 with rd := 2 } with out := .half 0x0101 } ∧
    said (exec (.hostRead16 0) { dev { full 4 1 with rd := 2 } with out := .half 0x0101 }) = some (.half 0x0101) := by
  decide

theorem witness_LocalIdHasThreeWriters :
    shows (exec (.setLocalId 0) (dev t2)) State.localId = some 0 ∧ (dev t2).localId ≠ 0 := by decide

theorem witness_RefusedOperationChangesNothing :
    (midFrame 1).state ≠ .commandReceived ∧ 0 < (dev (midFrame 1)).tx.length ∧
    encode (.queryVersion 0 0) = .dispatch 0 0 ∧ 64 < (List.replicate 65 (0 : Byte)).length ∧
    (dev (full 64 1)).Holds 0 (full 64 1) ∧ (full 64 1).len.toNat < (full 64 1).rd.toNat + 65 ∧
    (full 0 1).len.toNat < (full 0 1).rd.toNat + 1 := by decide

theorem witness_HostNeverForgesAFrame :
    encode (.portRelease 0) = .request { op := .portRelease } ∧
    port0 (exec (.portRelease 0) (dev t2)) = some { t2 with state := .idle } := by decide

theorem witness_OnlyReleaseAndResetEndAHold :
    (dev t2).Holds 0 t2 ∧ (port0 (exec (.portRelease 0) (dev t2))).map Port.state = some .idle ∧
    (port0 (exec .reset (dev t2))).map Port.state = some .idle := by decide

theorem witness_SuccessReplyBytes :
    0 < (dev t2).tx.length ∧ (List.replicate 64 (0 : Byte)).length ≤ 64 ∧
    64 < (List.replicate 65 (0 : Byte)).length := by decide

theorem witness_ErrorReplyBytes : 1 < (dev t2).tx.length := by decide

theorem witness_SerializerIsTheStreamingFramer : (List.replicate 64 (0xFF : Byte)).length ≤ 64 := by decide

theorem witness_SuccessRepliesAreFramesErrorRepliesAreNot :
    Port.reset.state = .idle ∧ (List.replicate 64 (0 : Byte)).length ≤ 64 ∧ Params.illustrative.Admissible := by decide

theorem witness_TransmitStreamsAreAppendOnly :
    sent (exec (.txError 0 0x7F) { dev t2 with tx := [[0xAA], []] }) =
      some [0xAA, 0x24, 0x4D, 0x21, 1, 0, 0x7F, 0x7F] ∧
    sent (exec .reset { dev t2 with tx := [[0xAA], []] }) = some [] := by decide

theorem witness_RouteReturnsThePolicysVerdict :
    t2.state = .commandReceived ∧ (midFrame 1).state ≠ .commandReceived := by decide

/-- A frame for this device, a wildcard frame and a frame for another. -/
theorem witness_MatchingFramesAreDispatchedOthersRelayed :
    (dev t2).params.Admissible ∧ (held 0x3C 1 0x22 []).targetId = (dev t2).localId ∧
    (held 0x3C 0 0x22 []).targetId = 0 ∧ t2.targetId ≠ (dev t2).localId ∧ t2.targetId ≠ 0 ∧
    said (exec (.route 0) (dev t2)) = some (.verdict ⟨false, true, .dispatchFirst⟩) := by decide

/-- An action of another code, and a query with the code of "set device id"; the longest and the shortest payload. -/
theorem witness_OtherFramesAreRelayedUnchanged :
    (dev (full 64 1)).Holds 0 (full 64 1) ∧ 1 < (dev t2).tx.length ∧ (full 64 1).Carries (List.replicate 64 1) ∧
    ¬ ((full 64 1).dir = 0x3C ∧ (full 64 1).cmd = Codes.illustrative.setDeviceId) ∧
    ¬ ((held 0x3E 0 0x20 []).dir = 0x3C ∧ (held 0x3E 0 0x20 []).cmd = Codes.illustrative.setDeviceId) ∧
    (held 0x3E 0 0x20 []).Carries [] := by decide

/-- The wrap of the local id 255 (T46), and a payload of no byte at all. -/
theorem witness_EnumerationFramesAreRestamped :
    (dev (held 0x3C 0 0x20 [])).Holds 0 (held 0x3C 0 0x20 []) ∧ 0 < (dev t2).tx.length ∧
    (held 0x3C 0 0x20 []).cmd = Codes.illustrative.setDeviceId ∧
    (0 : Byte).toNat = ((255 : Byte).toNat + 1) % 256 ∧ (2 : Byte).toNat = ((1 : Byte).toNat + 1) % 256 := by decide

theorem witness_RelayedFrameIsByteIdentical :
    rxFeed Port.reset [0x24, 0x4D, 0x3C, 2, 2, 0x22, 0xA8, 0x16, 0x9E] =
      .ok (t2, List.replicate 8 .consumed ++ [.frameDone]) ∧
    said (exec (.relayPass 0 0) (dev t2)) = some .done ∧ (dev t2).tx[0]? = some [] := by decide

/-- The same device with one port and one channel. -/
def onePort : State := { applying with ports := [Port.reset], tx := [[]] }

/-- One hop of a device that applies every id, for each of the 256 payloads, its reply on channel 0 and its relay on
channel 1. -/
theorem hop_applying : ∀ n : Fin 256,
    shows (hop 0 0 1 (enumFrame Codes.illustrative 0 (BitVec.ofFin n)) applying) (fun t => t.tx[1]?) =
      some (some (enumFrame Codes.illustrative 0 (BitVec.ofFin n + 1))) := by decide +kernel

/-- The same with one channel for both. -/
theorem hop_onePort : ∀ n : Fin 256,
    shows (hop 0 0 0 (enumFrame Codes.illustrative 0 (BitVec.ofFin n)) onePort) (fun t => t.tx[0]?) =
      some (some (replyOk (BitVec.ofFin n) 0x20 [] ++ enumFrame Codes.illustrative 0 (BitVec.ofFin n + 1))) := by
  decide +kernel

/-- The next state of a hop, from what it shows. -/
theorem hop_next {p : PortId} {ch rc : ChanId} {frame : List Byte} {s : State} {b : Option (List Byte)}
    (h : shows (hop p ch rc frame s) (fun t => t.tx[rc]?) = some b) :
    ∃ t, hop p ch rc frame s = .next t ∧ t.tx[rc]? = b := by
  cases hr : hop p ch rc frame s <;> rw [hr] at h
  · exact ⟨_, rfl, Option.some.inj h⟩
  · cases h
  · cases h

/-- The hypotheses of the chain law, for one device repeated. -/
abbrev ChainMet (d : State) (ch rc : ChanId) : Prop :=
  ∃ (ds ts : Nat → State) (frames : Nat → List Byte) (p : PortId) (k : Codes) (v : Byte),
    (∀ n, ds n = d) ∧
    (∀ n, (ds n).Inv ∧ (ds n).params.codes = k ∧ (ds n).params.setIdZero = .apply ∧ ch < (ds n).tx.length ∧
      rc < (ds n).tx.length ∧ ∃ q, (ds n).ports[p]? = some q ∧ q.state = .idle) ∧
    frames 0 = enumFrame k 0 v ∧
    (∀ n, hop p ch rc (frames n) (ds n) = .next (ts n)) ∧
    (∀ n bs, (ds n).tx[rc]? = some bs → ∃ reply : List Byte, reply.length = (if ch = rc then 7 else 0) ∧
      (ts n).tx[rc]? = some (bs ++ (reply ++ frames (n + 1))))

/-- Two channels. Every device of the chain is the same; they are told apart by what they have received. -/
theorem witness_EnumerationChainLaw : ChainMet applying 0 1 := by
  have inv : applying.Inv := ⟨by decide, by decide, rfl, by decide, by decide⟩
  have key : ∀ v : Byte, ∃ t, hop 0 0 1 (enumFrame Codes.illustrative 0 v) applying = .next t ∧
      t.tx[1]? = some (enumFrame Codes.illustrative 0 (v + 1)) := fun v => hop_next (hop_applying v.toFin)
  choose t ht using key
  refine ⟨fun _ => applying, fun n => t (2 + BitVec.ofNat 8 n), fun n => enumFrame _ 0 (2 + BitVec.ofNat 8 n),
    0, Codes.illustrative, 2, fun _ => rfl, fun n => ⟨inv, rfl, rfl, Nat.zero_lt_two, Nat.one_lt_two, Port.reset,
      rfl, rfl⟩, by simp, fun n => (ht _).1, fun n bs h => ⟨[], rfl, ?_⟩⟩
  have : bs = [] := by simpa [applying, dev] using h.symm
  simp [this, (ht _).2, BitVec.ofNat_add, BitVec.add_assoc]

/-- One channel for reply and relay. -/
theorem witness_EnumerationChainLaw_onePort : ChainMet onePort 0 0 := by
  have inv : onePort.Inv := ⟨by decide, by decide, rfl, by decide, by decide⟩
  have key : ∀ v : Byte, ∃ t, hop 0 0 0 (enumFrame Codes.illustrative 0 v) onePort = .next t ∧
      t.tx[0]? = some (replyOk v 0x20 [] ++ enumFrame Codes.illustrative 0 (v + 1)) :=
    fun v => hop_next (hop_onePort v.toFin)
  choose t ht using key
  refine ⟨fun _ => onePort, fun n => t (2 + BitVec.ofNat 8 n), fun n => enumFrame _ 0 (2 + BitVec.ofNat 8 n),
    0, Codes.illustrative, 2, fun _ => rfl, fun n => ⟨inv, rfl, rfl, Nat.one_pos, Nat.one_pos, Port.reset,
      rfl, rfl⟩, by simp, fun n => (ht _).1, fun n bs h =>
      ⟨replyOk (2 + BitVec.ofNat 8 n) 0x20 [], rfl, ?_⟩⟩
  have : bs = [] := by simpa [onePort] using h.symm
  simp [this, (ht _).2, BitVec.ofNat_add, BitVec.add_assoc]

theorem witness_VersionAndDeviceIdReplies :
    (dev (held 0x3E 1 0x01 [])).Serves 0 0 (held 0x3E 1 0x01 []) (dev t2).params.codes.version ∧
    (dev (held 0x3E 1 0x02 [])).Serves 0 0 (held 0x3E 1 0x02 []) (dev t2).params.codes.deviceId := by decide

theorem witness_SettingQueriesReply :
    (dev (held 0x3E 1 0x04 [])).Serves 0 0 (held 0x3E 1 0x04 []) (dev t2).params.codes.channel ∧
    (dev (held 0x3E 1 0x06 [])).Serves 0 0 (held 0x3E 1 0x06 []) (dev t2).params.codes.rssiThreshold ∧
    (dev (held 0x3E 1 0x08 [])).Serves 0 0 (held 0x3E 1 0x08 []) (dev t2).params.codes.lapMax ∧
    (dev t2).collab.settings.channel = (0 : Byte) ++ (0 : Byte) ∧
    (dev t2).collab.settings.threshold = (0 : Byte) ++ (0 : Byte) ∧ (dev t2).collab.settings.lapMax = 0 := by decide

theorem witness_BundleQueriesReply :
    (busy t2).collab.measured = fiveLaps ∧
    (busy (held 0x3E 1 0x03 [])).Serves 0 0 (held 0x3E 1 0x03 []) (dev t2).params.codes.status ∧
    (busy (held 0x3E 1 0x05 [])).Serves 0 0 (held 0x3E 1 0x05 []) (dev t2).params.codes.rssi ∧
    (busy (held 0x3E 1 0x07 [])).Serves 0 0 (held 0x3E 1 0x07 []) (dev t2).params.codes.rssiFilter ∧
    (busy (held 0x3E 1 0x0C [])).Serves 0 0 (held 0x3E 1 0x0C []) (dev t2).params.codes.debug := by decide

/-- The largest time a frame can carry, 65535 s, and 0 s. -/
theorem witness_MinimumLapTimeRoundTrip :
    (dev (held 0x3C 1 0x26 [0xFF, 0xFF])).Serves 0 0 (held 0x3C 1 0x26 [0xFF, 0xFF]) (dev t2).params.codes.setLapMinTime ∧
    (held 0x3C 1 0x26 [0xFF, 0xFF]).Operand [0xFF, 0xFF] ∧
    (dev (held 0x3E 1 0x09 [])).Serves 0 0 (held 0x3E 1 0x09 []) (dev t2).params.codes.lapMinTime ∧
    (dev t2).collab.settings.minLapMs.toNat / 1000 = (0 : Half).toNat := by decide

theorem witness_LastLapReply :
    (busy (held 0x3E 1 0x0A [])).Serves 0 0 (held 0x3E 1 0x0A []) (dev t2).params.codes.lastLap ∧
    fiveLaps.laps.length = 4 + 1 ∧ fiveLaps.laps[4]? = some ⟨123456, 0x0123, 0x0120⟩ ∧
    (dev (held 0x3E 1 0x0A [])).Serves 0 0 (held 0x3E 1 0x0A []) (dev t2).params.codes.lastLap ∧
    (dev t2).collab.measured.laps = [] ∧ (dev t2).params.lastLapEmpty = .zeroedRecord ∧
    ({ Params.illustrative with lastLapEmpty := .errorReply } : Params).Admissible := by decide

/-- The last entry under the one reading, the first under the other. -/
theorem witness_SelectedLapReply :
    (busy (held 0x3E 1 0x0B [])).Serves 0 0 (held 0x3E 1 0x0B []) (dev t2).params.codes.selectedLap ∧
    (4 : Byte).toNat < fiveLaps.laps.length ∧ (dev t2).params.selectedEntry = .atSelection ∧
    fiveLaps.laps[4]? = some ⟨123456, 0x0123, 0x0120⟩ ∧ 0 + 1 = (1 : Byte).toNat ∧
    ({ Params.illustrative with selectedEntry := .beforeSelection } : Params).Admissible := by decide

theorem witness_TriggerActionsRaiseAndAcknowledge :
    ([0x10, 0x11, 0x12, 0x13, 0x14] : List Byte) =
      [(dev t2).params.codes.reset, (dev t2).params.codes.calibrate, (dev t2).params.codes.start,
        (dev t2).params.codes.activate, (dev t2).params.codes.deactivate] ∧
    ∀ k ∈ ([0x10, 0x11, 0x12, 0x13, 0x14] : List Byte),
      (dev (held 0x3C 1 k [])).Serves 0 0 (held 0x3C 1 k []) k := by decide

theorem witness_PersistActionRaisesAndAcknowledges :
    (dev (held 0x3C 1 0x29 [])).Serves 0 0 (held 0x3C 1 0x29 []) (dev t2).params.codes.persist := by decide

/-- A zero, which the illustrative parameters ignore, and the last id. -/
theorem witness_SetDeviceIdAppliesBeforeReplying :
    ∀ v ∈ ([0, 255] : List Byte),
      (dev (held 0x3C 0 0x20 [v])).Serves 0 0 (held 0x3C 0 0x20 [v]) (dev t2).params.codes.setDeviceId ∧
      (held 0x3C 0 0x20 [v]).Operand [v] := by decide

theorem witness_SelectionAndLapMaximumAreClamped :
    ∀ v ∈ ([0, 50, 51, 255] : List Byte),
      (busy (held 0x3C 1 0x23 [v])).Serves 0 0 (held 0x3C 1 0x23 [v]) (dev t2).params.codes.selectLap ∧
      (busy (held 0x3C 1 0x27 [v])).Serves 0 0 (held 0x3C 1 0x27 [v]) (dev t2).params.codes.setLapMax ∧
      (held 0x3C 1 0x23 [v]).Operand [v] ∧ (held 0x3C 1 0x27 [v]).Operand [v] := by decide

theorem witness_ThresholdAndDebugAreStored :
    (dev (held 0x3C 1 0x24 [1, 2])).Serves 0 0 (held 0x3C 1 0x24 [1, 2]) (dev t2).params.codes.setRssiThreshold ∧
    (held 0x3C 1 0x24 [1, 2]).Operand [1, 2] ∧
    (dev (held 0x3C 1 0x28 [7])).Serves 0 0 (held 0x3C 1 0x28 [7]) (dev t2).params.codes.setDebug ∧
    (held 0x3C 1 0x28 [7]).Operand [7] := by decide

theorem witness_ChannelAndFilterAreStoredAndTrigger :
    (dev t2).Serves 0 0 t2 (dev t2).params.codes.setChannel ∧ t2.Operand [0xA8, 0x16] ∧
    (dev (held 0x3C 1 0x25 [1, 2, 3, 4])).Serves 0 0 (held 0x3C 1 0x25 [1, 2, 3, 4])
      (dev t2).params.codes.setRssiFilter ∧
    (held 0x3C 1 0x25 [1, 2, 3, 4]).Operand [1, 2, 3, 4] := by decide

/-- Frames one byte short of the first operand, and both answers to them. -/
theorem witness_ShortActionHasNoEffect :
    (dev (held 0x3C 1 0x20 [])).Serves 0 0 (held 0x3C 1 0x20 []) (dev t2).params.codes.setDeviceId ∧
    (held 0x3C 1 0x20 []).len.toNat < (held 0x3C 1 0x20 []).rd.toNat + 1 ∧
    (dev (held 0x3C 1 0x22 [0xA8])).Serves 0 0 (held 0x3C 1 0x22 [0xA8]) (dev t2).params.codes.setChannel ∧
    (held 0x3C 1 0x22 [0xA8]).len.toNat < (held 0x3C 1 0x22 [0xA8]).rd.toNat + 2 ∧
    (dev t2).params.shortAction = .errorReply ∧
    ({ Params.illustrative with shortAction := .noReply } : Params).Admissible := by decide

/-- The second clause, at both ends of its range: two bytes, and three. -/
theorem witness_ShortActionHasNoEffect_filter :
    ∀ pl ∈ ([[1, 2], [1, 2, 3]] : List (List Byte)),
      (dev (held 0x3C 1 0x25 pl)).Serves 0 0 (held 0x3C 1 0x25 pl) (dev t2).params.codes.setRssiFilter ∧
      (held 0x3C 1 0x25 pl).Operand [1, 2] ∧ (held 0x3C 1 0x25 pl).len.toNat < (held 0x3C 1 0x25 pl).rd.toNat + 4 := by
  decide

theorem witness_UnknownCommandGetsErrorReply :
    (dev (held 0x3E 1 0x7F [])).Holds 0 (held 0x3E 1 0x7F []) ∧ 0 < (dev t2).tx.length ∧
    (0x7F : Byte) ∉ Codes.illustrative.queries ++ Codes.illustrative.actions := by decide

theorem witness_DecodeOfEncodeIsTheOperation :
    ((dev t2).env.codes.queries ++ (dev t2).env.codes.actions).Nodup ∧
    (Instr.actionSetChannel 0 1).wf (dev t2).env.ports.length (dev t2).env.nChans = true ∧
    (Instr.actionSetChannel 0 1).fits (dev t2).env = true := by decide

theorem witness_DecodedOperationIsWellFormedAndEncodesBack :
    decode (env .headerDeviceId) (.byte 0 64) = .ok (.idLenOk 0 64) := rfl

/-- No input; a request; a request the decoder rejects; a change of the measured data; a call of the setter. -/
theorem witness_StepPerformsTheDecodedOperation :
    (dev t2).pending = [] ∧ decode (dev t2).env (.request { op := .route }) = .ok (.route 0) ∧
    decode (dev t2).env (.request { op := .route, port := 2 }) = .error .noSuchPort ∧
    (given t2 [.measure fiveLaps]).pending = .measure fiveLaps :: [] ∧
    (given t2 [.setDeviceState 255]).pending = .setDeviceState 255 :: [] := ⟨rfl, rfl, rfl, rfl, rfl⟩

theorem witness_StepKeepsInvariant :
    (given t2 [.request { op := .portRelease }]).Inv ∧
    (port0 (step (given t2 [.request { op := .portRelease }]))).map Port.state = some .idle :=
  ⟨⟨by decide, by decide, rfl, by decide, by decide⟩, by decide⟩

/-- The two refusals a host's mistake can reach. -/
theorem witness_StepNeverFaultsAndRarelyRefuses :
    (given t2 [.request { op := .relayRewrite }]).Inv ∧
    refusal (step (given t2 [.request { op := .relayRewrite }])) = some .armNotRequestable ∧
    refusal (step (given t2 [.request { op := .relay, chan := 2 }])) = some (.undecodable .noSuchChannel) :=
  ⟨⟨by decide, by decide, rfl, by decide, by decide⟩, by decide, by decide⟩

theorem witness_ParametersAreFixedAndRefusalMarkIsSticky :
    shows (step (given (midFrame 1) [.request { op := .portRelease }])) (fun t => (t.refusalSeen, t.out)) =
      some (true, .refused .noFrame) ∧
    shows (step { given t2 [.request { op := .portRelease }] with refusalSeen := true }) State.refusalSeen = some true :=
  ⟨rfl, rfl⟩

end Sys2Proof.Tests
end

namespace Sys2Proof.Machine

/-! ### The state after reset and the status outputs of a port -/

/-- However many ports the device has (R10, decision D31), each is the same reset port. -/
theorem eq_reset_of_mem_reset_ports {q : Port} (hq : q ∈ State.reset.ports) : q = Port.reset := by
  obtain hfirst | hrest := List.mem_cons.mp hq
  · exact hfirst
  · exact List.eq_of_mem_replicate hrest

theorem frameReady_of_idle {q : Port} (hq : q.state = .idle) : q.frameReady = false := by
  simp [Port.frameReady, hq]

theorem rxReady_of_idle {q : Port} (hq : q.state = .idle) : q.rxReady = true := by
  simp [Port.rxReady, hq]

/-- Settles O1: every port after reset is `Port.reset`, which is `Idle`, and the status outputs follow from `Idle`. -/
theorem resetLeavesPortsIdleAndLocalIdOne : Obligations.ResetLeavesPortsIdleAndLocalIdOne := by
  refine ⟨fun q hq => ?_, rfl⟩
  have hidle : q.state = .idle := congrArg Port.state (eq_reset_of_mem_reset_ports hq)
  exact ⟨hidle, frameReady_of_idle hidle, rxReady_of_idle hidle⟩

end Sys2Proof.Machine

namespace Sys2Proof.Machine

/-! ### The decoder on a presented byte (R100)

A presented byte is read by the port's context; what it selects is one equation for each parse state. -/

theorem decode_byte {s : State} {p : PortId} {q : Port} {b : Byte} {i : Instr} (hq : s.ports[p]? = some q)
    (hsel : decodeByte q.ctx p b = i) : decode s.env (.byte p b) = .ok i := by
  simp [decode, hq, hsel]

section
variable {c : PortCtx} (p : PortId) (b : Byte)

@[simp] theorem decodeByte_idle (hs : c.state = .idle) :
    decodeByte c p b = if b = Config.sync0 then .idleSync p else .idleReject p b := by
  simp only [decodeByte, hs]

@[simp] theorem decodeByte_frameStart (hs : c.state = .frameStart) :
    decodeByte c p b = if b = Config.sync1 then .startM p else .startResync p b := by
  simp only [decodeByte, hs]

@[simp] theorem decodeByte_headerM (hs : c.state = .headerM) :
    decodeByte c p b =
      if b = Config.dirAction then .mDirAction p else if b = Config.dirQuery then .mDirQuery p else .mResync p b := by
  simp only [decodeByte, hs]

@[simp] theorem decodeByte_headerArrow (hs : c.state = .headerArrow) : decodeByte c p b = .arrowId p b := by
  simp only [decodeByte, hs]

@[simp] theorem decodeByte_headerDeviceId (hs : c.state = .headerDeviceId) :
    decodeByte c p b = if b.toNat ≤ Config.bufCap then .idLenOk p b else .idLenReject p b := by
  simp only [decodeByte, hs]

@[simp] theorem decodeByte_headerSize (hs : c.state = .headerSize) : decodeByte c p b = .sizeCmd p b := by
  simp only [decodeByte, hs]

theorem decodeByte_payload (hs : c.state = .headerCmd) (hwr : c.wr.toNat < c.len.toNat) :
    decodeByte c p b = .cmdPayload p b := by
  simp only [decodeByte, hs, hwr, if_true]

theorem decodeByte_trailer (hs : c.state = .headerCmd) (hwr : ¬ c.wr.toNat < c.len.toNat) :
    decodeByte c p b = if b = c.cksum then .cmdTrailerOk p b else .cmdTrailerBad p b := by
  simp only [decodeByte, hs, hwr, if_false]

@[simp] theorem decodeByte_commandReceived (hs : c.state = .commandReceived) : decodeByte c p b = .doneDrop p b := by
  simp only [decodeByte, hs]

end

/-! ### What a byte-step row does -/

/-- Writing back the port that is there changes nothing: the rows that only report (R122, R134). -/
theorem putPort_self {s : State} {p : PortId} {q : Port} (hq : s.ports[p]? = some q) : s.putPort p q = s := by
  obtain ⟨hp, rfl⟩ := List.getElem?_eq_some_iff.mp hq
  simp [State.putPort]

/-- What a payload byte makes of its port (R131). -/
def Port.storePayload (q : Port) (b : Byte) : Port :=
  { q with buf := Memory.write q.buf q.wr.toNat b, cksum := q.cksum ^^^ b, wr := q.wr + 1 }

theorem Port.storePayload_wr {q : Port} (hwr : q.wr.toNat < Config.bufCap) (b : Byte) :
    (q.storePayload b).wr.toNat = q.wr.toNat + 1 := by
  have hcap : q.wr.toNat < 64 := hwr
  simp only [Port.storePayload]
  bv_omega

theorem exec_cmdPayload {s : State} {p : PortId} {q : Port} (hq : s.ports[p]? = some q)
    (hs : q.state = .headerCmd) (hwr : q.wr.toNat < q.len.toNat) (hcap : q.wr.toNat < Config.bufCap) (b : Byte) :
    exec (.cmdPayload p b) s = .next ((s.putPort p (q.storePayload b)).report (.event p .consumed)) := by
  simp [exec, execCmdPayload, onPort_some hq, hs, hwr, bufWrite_of_lt q b hcap, Port.storePayload]

/-- Everything a payload byte step can do: it stores at a write cursor below the length and the capacity. -/
theorem exec_cmdPayload_next {s t : State} {p : PortId} {b : Byte} (h : exec (.cmdPayload p b) s = .next t) :
    ∃ q, s.ports[p]? = some q ∧ q.state = .headerCmd ∧ q.wr.toNat < q.len.toNat ∧ q.wr.toNat < Config.bufCap ∧
      t = (s.putPort p (q.storePayload b)).report (.event p .consumed) := by
  obtain ⟨q, hq, h⟩ := onPort_next h
  split at h
  · rename_i hsel
    obtain ⟨hs, hwr⟩ : q.state = .headerCmd ∧ q.wr.toNat < q.len.toNat := by simpa using hsel
    split at h
    · rename_i q' hbuf
      obtain ⟨hcap, rfl⟩ := bufWrite_ok hbuf
      cases h
      exact ⟨q, hq, hs, hwr, hcap, rfl⟩
    · cases h
  · cases h

/-- The rows a presented byte can select: each is a `byteRule` of its port, except CMD_PAYLOAD, which can fault. -/
theorem exec_byteRow {i : Instr} {p : PortId} {b : Byte} (hi : encode i = .byte p b) :
    (∃ e g u, ∀ s, exec i s = byteRule s p e g u) ∨ i = .cmdPayload p b := by
  cases i <;> cases hi
  case cmdPayload => exact .inr rfl
  all_goals exact .inl ⟨_, _, _, fun _ => rfl⟩

/-- Everything a byte step can do to the device: replace its own port and report an event. -/
theorem exec_byte_next {s t : State} {i : Instr} {p : PortId} {b : Byte} (hi : encode i = .byte p b)
    (h : exec i s = .next t) : ∃ q e, t = (s.putPort p q).report (.event p e) := by
  obtain ⟨e, g, u, hrow⟩ | rfl := exec_byteRow hi
  · obtain ⟨q, -, -, ht⟩ := byteRule_next (hrow s ▸ h)
    exact ⟨u q, e, ht⟩
  · obtain ⟨q, -, -, -, -, ht⟩ := exec_cmdPayload_next h
    exact ⟨q.storePayload b, .consumed, ht⟩

theorem sameButPort_putPort_report (s : State) (p : PortId) (q : Port) (o : Output) :
    SameButPort p s ((s.putPort p q).report o) := by
  have hlen : (s.ports.set p q).length = s.ports.length := List.length_set
  have hother : ∀ j, j ≠ p → (s.ports.set p q)[j]? = s.ports[j]? := fun j hj => List.getElem?_set_ne hj.symm
  exact ⟨hlen, hother, rfl, rfl, rfl, rfl, rfl, rfl, rfl, rfl, rfl⟩

/-! ### The obligations on byte steps -/

/-- Settles O12: whichever row the byte selects, all it does is replace its own port and report. -/
theorem byteStepsTouchOnlyTheirPort : Obligations.ByteStepsTouchOnlyTheirPort := by
  intro s t i p b hi h
  obtain ⟨q, e, rfl⟩ := exec_byte_next hi h
  exact sameButPort_putPort_report s p q (.event p e)

/-- Settles O4: one clause for each of the four rows of `Idle` and `FrameStart`. -/
theorem idleAndFrameStartByteSteps : Obligations.IdleAndFrameStartByteSteps := by
  intro s p q b hq
  refine ⟨?idleSync, ?idleReject, ?startM, ?startResync⟩
  case idleSync =>
    intro hs (hb : b = Config.sync0)
    exact ⟨decode_byte hq (by simp [hs, hb]), byteRule_applies hq (by simp [hs]) _⟩
  case idleReject =>
    intro hs (hb : b ≠ Config.sync0)
    have hexec : exec (.idleReject p b) s = .next ((s.putPort p q).report (.event p .rejected)) :=
      byteRule_applies hq (by simp [hs, hb]) id
    rw [putPort_self hq] at hexec
    exact ⟨decode_byte hq (by simp [hs, hb]), hexec⟩
  case startM =>
    intro hs (hb : b = Config.sync1)
    exact ⟨decode_byte hq (by simp [hs, hb]), byteRule_applies hq (by simp [hs]) _⟩
  case startResync =>
    intro hs (hb : b ≠ Config.sync1)
    exact ⟨decode_byte hq (by simp [hs, hb]), byteRule_applies hq (by simp [hs, hb]) Port.fail⟩

/-- Settles O5: the three rows of `HeaderM` and the one of `HeaderArrow`. -/
theorem directionAndTargetIdByteSteps : Obligations.DirectionAndTargetIdByteSteps := by
  intro s p q b hq
  refine ⟨?mDirAction, ?mDirQuery, ?mResync, ?arrowId⟩
  case mDirAction =>
    rintro hs (rfl : b = Config.dirAction)
    exact ⟨decode_byte hq (by simp [hs]), byteRule_applies hq (by simp [hs]) _⟩
  case mDirQuery =>
    rintro hs (rfl : b = Config.dirQuery)
    have hne : Config.dirQuery ≠ Config.dirAction := by decide
    exact ⟨decode_byte hq (by simp [hs, hne]), byteRule_applies hq (by simp [hs]) _⟩
  case mResync =>
    intro hs (hba : b ≠ Config.dirAction) (hbq : b ≠ Config.dirQuery)
    exact ⟨decode_byte hq (by simp [hs, hba, hbq]), byteRule_applies hq (by simp [hs, hba, hbq]) Port.fail⟩
  case arrowId =>
    intro hs
    exact ⟨decode_byte hq (by simp [hs]), byteRule_applies hq (by simp [hs]) _⟩

/-- Settles O6: the two rows of `HeaderDeviceId`, told apart by the length bound, and the one of `HeaderSize`. -/
theorem lengthAndCommandByteSteps : Obligations.LengthAndCommandByteSteps := by
  intro s p q b hq
  refine ⟨?idLenOk, ?idLenReject, ?sizeCmd⟩
  case idLenOk =>
    intro hs (hb : b.toNat ≤ Config.bufCap)
    exact ⟨decode_byte hq (by simp [hs, hb]), byteRule_applies hq (by simp [hs, lenOk, hb]) _⟩
  case idLenReject =>
    intro hs (hb : Config.bufCap < b.toNat)
    exact ⟨decode_byte hq (by simp [hs, hb.not_ge]), byteRule_applies hq (by simp [hs, lenOk, hb]) Port.fail⟩
  case sizeCmd =>
    intro hs
    exact ⟨decode_byte hq (by simp [hs]), byteRule_applies hq (by simp [hs]) _⟩

/-- Settles O7: the length bound keeps the write cursor inside the buffer, so the byte is stored at it. -/
theorem payloadByteStepStoresAtWriteCursor : Obligations.PayloadByteStepStoresAtWriteCursor := by
  intro s p q b hq hs hlen hwr
  have hcap : q.wr.toNat < Config.bufCap := hwr.trans_le hlen
  have hcell : Memory.read (q.storePayload b).buf q.wr.toNat = some b := Memory.read_write_self q.buf q.wr.toNat b
  have hothers : ∀ j, j ≠ q.wr.toNat → Memory.read (q.storePayload b).buf j = Memory.read q.buf j :=
    fun _ hj => Memory.read_write_of_ne q.buf b hj
  exact ⟨decode_byte hq (decodeByte_payload p b hs hwr), q.storePayload b, exec_cmdPayload hq hs hwr hcap b, rfl,
    Port.storePayload_wr hcap b, hcell, hothers⟩

/-- Settles O8: at `wr = len` the byte is the trailer, and the checksum tells the two rows apart. -/
theorem trailerByteSteps : Obligations.TrailerByteSteps := by
  intro s p q b hq
  refine ⟨?cmdTrailerOk, ?cmdTrailerBad⟩
  case cmdTrailerOk =>
    intro hs hwr hb
    exact ⟨decode_byte hq (by simp [decodeByte_trailer, hs, hwr, hb]),
      byteRule_applies hq (by simp [hs, hwr, hb, Port.cksumMatch]) Port.complete⟩
  case cmdTrailerBad =>
    intro hs hwr hb
    exact ⟨decode_byte hq (by simp [decodeByte_trailer, hs, hwr, hb]),
      byteRule_applies hq (by simp [hs, hwr, hb, Port.cksumMatch]) Port.fail⟩

end Sys2Proof.Machine

namespace Sys2Proof.Machine

/-! ### Port control (41_port_control) -/

/-- PORT_RELEASE on a held port (R162). -/
theorem exec_portRelease {s : State} {p : PortId} {q : Port} (h : s.Holds p q) :
    exec (.portRelease p) s = .next ((s.putPort p q.release).report .done) :=
  onFrame_held h fun q => .next ((s.putPort p q.release).report .done)

/-- The port read back after it is written is the one that was written. -/
theorem eq_of_getElem?_putPort_self {s : State} {p : PortId} {q q' : Port}
    (h : (s.putPort p q).ports[p]? = some q') : q' = q := by
  obtain ⟨hp, rfl⟩ := List.getElem?_eq_some_iff.mp h
  exact List.getElem_set_self hp

/-- Settles O20: the port that is written back is `q.release`, whose parse state is `Idle`. -/
theorem releaseReturnsThePortToIdle : Obligations.ReleaseReturnsThePortToIdle := by
  intro s p q hheld
  refine ⟨(s.putPort p q.release).report .done, exec_portRelease hheld, rfl, fun q' hq' => ?_⟩
  have hrelease : q' = q.release := eq_of_getElem?_putPort_self hq'
  exact frameReady_of_idle (hrelease ▸ q.release_state)

end Sys2Proof.Machine

namespace Sys2Proof.Machine

/-! ### The transmit framer (42_tx_framer) -/

/-- The accumulator may start at any byte: it enters the XOR of the bytes once (R14). -/
theorem foldl_xor_eq_xor_xorList (acc : Byte) (bs : List Byte) : bs.foldl (· ^^^ ·) acc = acc ^^^ xorList bs :=
  calc bs.foldl (· ^^^ ·) acc
    _ = bs.foldl (· ^^^ ·) (acc ^^^ 0) := by simp
    _ = acc ^^^ xorList bs := List.foldl_assoc

/-- What the streaming framer has written when it is done (R182): the bytes, then the XOR it has accumulated. -/
theorem streamOut_eq_append (acc : Byte) (bs : List Byte) : streamOut acc bs = bs ++ [acc ^^^ xorList bs] := by
  rw [← foldl_xor_eq_xor_xorList]
  induction bs generalizing acc with
  | nil => rfl
  | cons b bs ih => exact congrArg (b :: ·) (ih (acc ^^^ b))

/-- Length and command code enter the checksum as two further bytes before the payload (R96). -/
theorem xorList_cons_cons (n c : Byte) (pl : List Byte) : xorList (n :: c :: pl) = checksum n c pl :=
  calc xorList (n :: c :: pl)
    _ = pl.foldl (· ^^^ ·) (0 ^^^ n ^^^ c) := rfl
    _ = pl.foldl (· ^^^ ·) (n ^^^ c) := by simp
    _ = checksum n c pl := foldl_xor_eq_xor_xorList (n ^^^ c) pl

theorem serialize_eq_streamOut (d i c : Byte) (pl : List Byte) :
    serialize d i c pl =
      [Config.sync0, Config.sync1, d, i] ++ streamOut 0 (BitVec.ofNat 8 pl.length :: c :: pl) := by
  simp only [streamOut_eq_append, xorList_cons_cons, BitVec.ofNat_eq_ofNat, BitVec.zero_xor]
  rfl

theorem length_serialize (d i c : Byte) (pl : List Byte) : (serialize d i c pl).length = 7 + pl.length := by
  simp only [serialize, List.length_append, List.length_cons, List.length_nil]
  omega

/-- Settles O30: both write the same bytes, and the accumulator ends as the checksum; the payload's length does not
matter. -/
theorem serializerIsTheStreamingFramer : Obligations.SerializerIsTheStreamingFramer :=
  fun d i c pl _ => ⟨serialize_eq_streamOut d i c pl, length_serialize d i c pl⟩

/-- The error reply has no payload, so its checksum is the command code (R107). -/
theorem replyErr_eq (dirError localId c : Byte) :
    replyErr dirError localId c = [0x24, 0x4D, dirError, localId, 0, c, c] := by
  have hck : checksum 0 c [] = c := by simp [checksum, xorList]
  calc replyErr dirError localId c
    _ = [0x24, 0x4D, dirError, localId, 0, c, checksum 0 c []] := rfl
    _ = [0x24, 0x4D, dirError, localId, 0, c, c] := by rw [hck]

/-- TX_ERROR on a channel of the device (R184). -/
theorem exec_txError {s : State} {ch : ChanId} (hch : ch < s.tx.length) (c : Byte) :
    exec (.txError ch c) s = .next (s.replyError ch c) :=
  onChan_lt hch (.next (s.replyError ch c))

/-- Settles O29: TX_ERROR appends `REPLY_ERR(c)`, whose bytes are those named. -/
theorem errorReplyBytes : Obligations.ErrorReplyBytes := by
  intro s ch c hch
  rw [exec_txError hch, ← replyErr_eq]
  rfl

end Sys2Proof.Machine

namespace Sys2Proof.Machine

/-! ### The unknown command of the dispatcher (44_dispatch_contract, R236) -/

/-- The decoder reads a dispatch by the code of the port's frame (R233). -/
theorem decode_dispatch {s : State} {p : PortId} {ch : ChanId} {q : Port} (hq : s.ports[p]? = some q)
    (hch : ch < s.tx.length) : decode s.env (.dispatch p ch) = .ok (decodeCommand s.params.codes p ch q.cmd) := by
  have hctx : s.env.ports[p]? = some q.ctx := by simp [hq]
  exact Laws.RoundTrip.decode_dispatch hctx hch

/-- An error reply as the state it leaves: seven bytes more on its channel, and the report (R184). -/
theorem replyError_eq (s : State) (ch : ChanId) (c : Byte) :
    s.replyError ch c =
      { s with tx := s.tx.modify ch (· ++ [0x24, 0x4D, s.params.dirError, s.localId, 0, c, c]), out := .done } := by
  rw [← replyErr_eq]
  rfl

/-- UNKNOWN_COMMAND where its row is selected: a held frame whose code is in neither table (R236). -/
theorem exec_unknownCommand {s : State} {p : PortId} {ch : ChanId} {q : Port} (hheld : s.Holds p q)
    (hch : ch < s.tx.length) (hcode : q.cmd ∉ s.params.codes.queries ++ s.params.codes.actions) :
    exec (.unknownCommand p ch) s = .next (s.replyError ch q.cmd) := by
  have hsel : (!(s.params.codes.queries ++ s.params.codes.actions).contains q.cmd) = true := by simpa using hcode
  exact onCommand_held hheld hch (g := fun k c => !(k.queries ++ k.actions).contains c) hsel
    fun q => .next (s.replyError ch q.cmd)

/-- Settles O53: the code misses both tables, so the decoder resolves it to the unknown command and that row is the
one selected; all it does is the error reply. -/
theorem unknownCommandGetsErrorReply : Obligations.UnknownCommandGetsErrorReply := by
  intro s p ch q hheld hch hcode
  have hdecode : decode s.env (.dispatch p ch) = .ok (.unknownCommand p ch) := by
    rw [decode_dispatch hheld.1 hch, Laws.RoundTrip.decodeCommand_unknown hcode]
  have hexec := exec_unknownCommand hheld hch hcode
  rw [replyError_eq] at hexec
  exact ⟨hdecode, hexec⟩

end Sys2Proof.Machine

namespace Sys2Proof.Machine

/-! ### A framing failure (60_exceptions, R281 to R285) -/

/-- Whichever row the decode map selects for a presented byte, it is a row of that port and byte (R100). -/
theorem encode_decodeByte (c : PortCtx) (p : PortId) (b : Byte) : encode (decodeByte c p b) = .byte p b := by
  cases hs : c.state
  case headerArrow | headerSize | commandReceived => simp [hs, encode]
  case idle | frameStart | headerDeviceId =>
    simp only [hs, decodeByte_idle, decodeByte_frameStart, decodeByte_headerDeviceId]
    split <;> simp [encode, *]
  case headerM =>
    rw [decodeByte_headerM p b hs]
    split
    · simp [encode, *]
    · split <;> simp [encode, *]
  case headerCmd =>
    by_cases hwr : c.wr.toNat < c.len.toNat
    · simp [decodeByte_payload p b hs hwr, encode]
    · rw [decodeByte_trailer p b hs hwr]
      split <;> rfl

theorem encode_of_decode_byte {e : DecodeEnv} {p : PortId} {b : Byte} {i : Instr}
    (h : decode e (.byte p b) = .ok i) : encode i = .byte p b := by
  simp only [decode] at h
  split at h
  · cases h
    exact encode_decodeByte _ p b
  · cases h

/-- A completed step on a presented byte consumes it and performs a row of that port and byte (R81, R100). -/
theorem step_byte_next {s t : State} {p : PortId} {b : Byte} {rest : List Input} (hpend : s.pending = .byte p b :: rest)
    (h : step s = .next t) : ∃ i, encode i = .byte p b ∧ exec i { s with pending := rest } = .next t := by
  simp only [step, hpend] at h
  split at h
  · rename_i i hdecode
    exact ⟨i, encode_of_decode_byte hdecode, h⟩
  · cases h

/-- The events of the three framing failures: bad sync bytes, oversize length, checksum mismatch (R283 to R285). -/
def framingFailures : List Event := [.resync, .lengthReject, .checksumDiscard]

/-- `exec_byteRow` with the update named where it matters: a row that reports a framing failure only fails its port. -/
theorem exec_byteRow_failure {i : Instr} {p : PortId} {b : Byte} (hi : encode i = .byte p b) :
    (∃ e g u, (∀ s, exec i s = byteRule s p e g u) ∧ (e ∈ framingFailures → u = Port.fail)) ∨ i = .cmdPayload p b := by
  cases i <;> cases hi
  case cmdPayload => exact .inr rfl
  case startResync | mResync | idLenReject | cmdTrailerBad => exact .inl ⟨_, _, _, fun _ => rfl, fun _ => rfl⟩
  all_goals exact .inl ⟨_, _, _, fun _ => rfl, fun he => absurd he (by decide)⟩

/-- Everything a byte step that reports a framing failure does to the device. -/
theorem exec_byte_failure {s t : State} {i : Instr} {p : PortId} {b : Byte} {e : Event} (hi : encode i = .byte p b)
    (h : exec i s = .next t) (hout : t.out = .event p e) (he : e ∈ framingFailures) :
    ∃ q, s.ports[p]? = some q ∧ t = (s.putPort p q.fail).report (.event p e) := by
  obtain ⟨e', g, u, hrow, hfail⟩ | rfl := exec_byteRow_failure hi
  · obtain ⟨q, hq, -, rfl⟩ := byteRule_next (hrow s ▸ h)
    obtain rfl : e' = e := by simpa using hout
    exact ⟨q, hq, by rw [hfail he]⟩
  · obtain ⟨q, -, -, -, -, rfl⟩ := exec_cmdPayload_next h
    obtain rfl : .consumed = e := by simpa using hout
    exact absurd he (by decide)

/-- Settles O13: the step performs a row of the byte's port, and a row that reports a framing failure only fails its
port. -/
theorem framingFailureWritesOnlyTheParseState : Obligations.FramingFailureWritesOnlyTheParseState := by
  intro s t p b rest e hpend hstep hout he
  obtain ⟨i, hi, hexec⟩ := step_byte_next hpend hstep
  exact exec_byte_failure hi hexec hout he

end Sys2Proof.Machine

namespace Sys2Proof.Machine

/-! ### The receive framer, row by row (R16, R120)

`rxStep` gives a result exactly where a row of the transition table applies, and the result is that row's. -/

/-- One row of the transition table (R121 to R134): what it asks of the port and the byte, the port it leaves, and the
event. -/
inductive RxRow (q : Port) (b : Byte) : Port → Event → Prop
  | idleSync (hs : q.state = .idle) (hb : b = Config.sync0) : RxRow q b { q with state := .frameStart } .consumed
  | idleReject (hs : q.state = .idle) (hb : b ≠ Config.sync0) : RxRow q b q .rejected
  | startM (hs : q.state = .frameStart) (hb : b = Config.sync1) : RxRow q b { q with state := .headerM } .consumed
  | startResync (hs : q.state = .frameStart) (hb : b ≠ Config.sync1) : RxRow q b q.fail .resync
  | mDir (hs : q.state = .headerM) (hb : b = Config.dirAction ∨ b = Config.dirQuery) :
    RxRow q b { q with dir := b, state := .headerArrow } .consumed
  | mResync (hs : q.state = .headerM) (hb : ¬ (b = Config.dirAction ∨ b = Config.dirQuery)) : RxRow q b q.fail .resync
  | arrowId (hs : q.state = .headerArrow) : RxRow q b { q with targetId := b, state := .headerDeviceId } .consumed
  | idLenOk (hs : q.state = .headerDeviceId) (hb : b.toNat ≤ Config.bufCap) :
    RxRow q b { q with len := b, cksum := b, wr := 0, rd := 0, state := .headerSize } .consumed
  | idLenReject (hs : q.state = .headerDeviceId) (hb : ¬ b.toNat ≤ Config.bufCap) : RxRow q b q.fail .lengthReject
  | sizeCmd (hs : q.state = .headerSize) :
    RxRow q b { q with cksum := q.cksum ^^^ b, cmd := b, state := .headerCmd } .consumed
  | cmdPayload (hs : q.state = .headerCmd) (hwr : q.wr.toNat < q.len.toNat) (hcap : q.wr.toNat < Config.bufCap) :
    RxRow q b (q.storePayload b) .consumed
  | cmdTrailerOk (hs : q.state = .headerCmd) (hwr : ¬ q.wr.toNat < q.len.toNat) (hb : b = q.cksum) :
    RxRow q b q.complete .frameDone
  | cmdTrailerBad (hs : q.state = .headerCmd) (hwr : ¬ q.wr.toNat < q.len.toNat) (hb : b ≠ q.cksum) :
    RxRow q b q.fail .checksumDiscard
  | doneDrop (hs : q.state = .commandReceived) : RxRow q b q .dropped

/-- The row's result is what `rxStep` computes. -/
theorem RxRow.rxStep_eq {q q' : Port} {b : Byte} {e : Event} (h : RxRow q b q' e) : rxStep q b = .ok (q', e) := by
  cases h
  case cmdPayload hs hwr hcap => simp [rxStep, hs, hwr, bufWrite_of_lt q b hcap, Port.storePayload]
  all_goals simp [rxStep, lenOk, Port.cksumMatch, *]

/-- Whatever port and byte, a row applies, or the write cursor stands outside the buffer, where `rxStep` faults. -/
theorem rxStep_cases (q : Port) (b : Byte) :
    (∃ q' e, RxRow q b q' e) ∨
      (q.state = .headerCmd ∧ q.wr.toNat < q.len.toNat ∧ ¬ q.wr.toNat < Config.bufCap ∧
        rxStep q b = .error .bufferIndex) := by
  cases hs : q.state
  case idle => by_cases hb : b = Config.sync0; exacts [.inl ⟨_, _, .idleSync hs hb⟩, .inl ⟨_, _, .idleReject hs hb⟩]
  case frameStart =>
    by_cases hb : b = Config.sync1
    exacts [.inl ⟨_, _, .startM hs hb⟩, .inl ⟨_, _, .startResync hs hb⟩]
  case headerM =>
    by_cases hb : b = Config.dirAction ∨ b = Config.dirQuery
    exacts [.inl ⟨_, _, .mDir hs hb⟩, .inl ⟨_, _, .mResync hs hb⟩]
  case headerArrow => exact .inl ⟨_, _, .arrowId hs⟩
  case headerDeviceId =>
    by_cases hb : b.toNat ≤ Config.bufCap
    exacts [.inl ⟨_, _, .idLenOk hs hb⟩, .inl ⟨_, _, .idLenReject hs hb⟩]
  case headerSize => exact .inl ⟨_, _, .sizeCmd hs⟩
  case headerCmd =>
    by_cases hwr : q.wr.toNat < q.len.toNat
    · by_cases hcap : q.wr.toNat < Config.bufCap
      · exact .inl ⟨_, _, .cmdPayload hs hwr hcap⟩
      · exact .inr ⟨rfl, hwr, hcap, by simp [rxStep, hs, hwr, bufWrite, hcap]⟩
    · by_cases hb : b = q.cksum
      exacts [.inl ⟨_, _, .cmdTrailerOk hs hwr hb⟩, .inl ⟨_, _, .cmdTrailerBad hs hwr hb⟩]
  case commandReceived => exact .inl ⟨_, _, .doneDrop hs⟩

/-- Everything a byte can do to a port. -/
theorem rxStep_ok {q q' : Port} {b : Byte} {e : Event} (h : rxStep q b = .ok (q', e)) : RxRow q b q' e := by
  obtain ⟨q₁, e₁, hrow⟩ | ⟨-, -, -, herr⟩ := rxStep_cases q b
  · cases hrow.rxStep_eq.symm.trans h
    exact hrow
  · cases herr.symm.trans h

/-- The rows of a held frame: every byte is dropped (R134). -/
theorem RxRow.of_held {q q' : Port} {b : Byte} {e : Event} (h : RxRow q b q' e) (hs : q.state = .commandReceived) :
    q' = q ∧ e = .dropped := by
  cases h <;> simp_all

/-- A frame is completed at its trailer only (R132). -/
theorem RxRow.of_frameDone {q q' : Port} {b : Byte} (h : RxRow q b q' .frameDone) :
    q.state = .headerCmd ∧ ¬ q.wr.toNat < q.len.toNat ∧ b = q.cksum ∧ q' = q.complete := by
  cases h
  case cmdTrailerOk hs hwr hb => exact ⟨hs, hwr, hb, rfl⟩

/-! ### A stream of bytes (R77, R120) -/

theorem rxFeed_cons {q q₁ q' : Port} {b : Byte} {bs : List Byte} {e : Event} {es : List Event} (h : RxRow q b q₁ e)
    (hbs : rxFeed q₁ bs = .ok (q', es)) : rxFeed q (b :: bs) = .ok (q', e :: es) := by
  simp [rxFeed, h.rxStep_eq, hbs]

theorem rxFeed_cons_inv {q q' : Port} {b : Byte} {bs : List Byte} {es : List Event}
    (h : rxFeed q (b :: bs) = .ok (q', es)) :
    ∃ q₁ e es', RxRow q b q₁ e ∧ rxFeed q₁ bs = .ok (q', es') ∧ es = e :: es' := by
  simp only [rxFeed] at h
  split at h
  · cases h
  · rename_i q₁ e hstep
    split at h
    · cases h
    · rename_i q'' es' hfeed
      cases h
      exact ⟨q₁, e, es', rxStep_ok hstep, hfeed, rfl⟩

theorem rxFeed_append {q q₁ q' : Port} {as bs : List Byte} {es es' : List Event} (has : rxFeed q as = .ok (q₁, es))
    (hbs : rxFeed q₁ bs = .ok (q', es')) : rxFeed q (as ++ bs) = .ok (q', es ++ es') := by
  induction as generalizing q es with
  | nil => cases has; exact hbs
  | cons a as ih =>
    obtain ⟨q₂, e, es₂, hrow, hfeed, rfl⟩ := rxFeed_cons_inv has
    exact rxFeed_cons hrow (ih hfeed)

theorem rxFeed_append_inv {q q' : Port} {as bs : List Byte} {es : List Event} (h : rxFeed q (as ++ bs) = .ok (q', es)) :
    ∃ q₁ es₁ es₂, rxFeed q as = .ok (q₁, es₁) ∧ rxFeed q₁ bs = .ok (q', es₂) ∧ es = es₁ ++ es₂ := by
  induction as generalizing q es with
  | nil => exact ⟨q, [], es, rfl, h, rfl⟩
  | cons a as ih =>
    obtain ⟨q₂, e, es₂, hrow, hfeed, rfl⟩ := rxFeed_cons_inv h
    obtain ⟨q₁, es₁, es₃, h₁, h₂, rfl⟩ := ih hfeed
    exact ⟨q₁, e :: es₁, es₃, rxFeed_cons hrow h₁, h₂, rfl⟩

/-- Every byte gives one event (R280). -/
theorem length_of_rxFeed {q q' : Port} {bs : List Byte} {es : List Event} (h : rxFeed q bs = .ok (q', es)) :
    es.length = bs.length := by
  induction bs generalizing q es with
  | nil => cases h; rfl
  | cons b bs ih =>
    obtain ⟨q₁, e, es', -, hfeed, rfl⟩ := rxFeed_cons_inv h
    simp [ih hfeed]

/-- The last byte of a stream and its event. -/
theorem rxFeed_concat_inv {q q' : Port} {bs : List Byte} {es : List Event} {e : Event}
    (h : rxFeed q bs = .ok (q', es ++ [e])) :
    ∃ init b q₁, bs = init ++ [b] ∧ rxFeed q init = .ok (q₁, es) ∧ RxRow q₁ b q' e := by
  have hlen : es.length + 1 = bs.length := by simpa using length_of_rxFeed h
  obtain ⟨init, b, rfl⟩ : ∃ init b, bs = init ++ [b] := by
    obtain rfl | hbs := List.eq_nil_or_concat' bs
    · cases hlen
    · exact hbs
  obtain ⟨q₁, es₁, es₂, h₁, h₂, hes⟩ := rxFeed_append_inv h
  obtain ⟨q₂, e₂, es₃, hrow, hnil, rfl⟩ := rxFeed_cons_inv h₂
  cases hnil
  obtain ⟨rfl, hlast⟩ := List.append_inj' hes rfl
  cases hlast
  exact ⟨init, b, q₁, rfl, h₁, hrow⟩

/-- While a frame is held a stream is dropped and writes nothing (R134). -/
theorem rxFeed_of_held {q q' : Port} {bs : List Byte} {es : List Event} (hs : q.state = .commandReceived)
    (h : rxFeed q bs = .ok (q', es)) : q' = q ∧ ∀ e ∈ es, e = .dropped := by
  induction bs generalizing es with
  | nil => cases h; simp
  | cons b bs ih =>
    obtain ⟨q₁, e, es', hrow, hfeed, rfl⟩ := rxFeed_cons_inv h
    obtain ⟨rfl, rfl⟩ := hrow.of_held hs
    simpa using ih hfeed

end Sys2Proof.Machine

namespace Sys2Proof.Machine

/-! ### The checksum and the payload buffer over several bytes -/

theorem xorList_cons (b : Byte) (bs : List Byte) : xorList (b :: bs) = b ^^^ xorList bs :=
  calc xorList (b :: bs)
    _ = bs.foldl (· ^^^ ·) (0 ^^^ b) := rfl
    _ = b ^^^ xorList bs := by rw [foldl_xor_eq_xor_xorList]; simp

theorem xorList_concat (bs : List Byte) (b : Byte) : xorList (bs ++ [b]) = xorList bs ^^^ b := by
  simp [xorList]

theorem checksum_concat (n c : Byte) (pl : List Byte) (b : Byte) :
    checksum n c (pl ++ [b]) = checksum n c pl ^^^ b := by
  simp [checksum, xorList_concat, BitVec.xor_assoc]

namespace Memory

/-- The bytes written one after the other from cell `i` on. -/
def writeAll (m : List Host.Cell) (i : Nat) : List Byte → List Host.Cell
  | [] => m
  | b :: bs => writeAll (write m i b) (i + 1) bs

theorem read_writeAll_of_lt {m : List Host.Cell} {i j : Nat} {bs : List Byte} (h : j < i) :
    read (writeAll m i bs) j = read m j := by
  induction bs generalizing m i with
  | nil => rfl
  | cons b bs ih => rw [writeAll, ih (by omega), read_write_of_ne m b (by omega)]

/-- Cells written one after the other read as what was written. -/
theorem read_writeAll {m : List Host.Cell} {i j : Nat} {bs : List Byte} (h : j < bs.length) :
    read (writeAll m i bs) (i + j) = bs[j]? := by
  induction bs generalizing m i j with
  | nil => cases h
  | cons b bs ih =>
    cases j with
    | zero => simp [writeAll, read_writeAll_of_lt, read_write_self]
    | succ j =>
      have hj : j < bs.length := by simpa using h
      rw [writeAll, Nat.add_comm j, ← Nat.add_assoc, ih hj, Nat.add_comm 1, List.getElem?_cons_succ]

end Memory

/-! ### A frame fed to an idle port (R135) -/

/-- What the first six bytes of a frame make of an idle port (R121 to R130). -/
def Port.header (q : Port) (d i n c : Byte) : Port :=
  { q with state := .headerCmd, dir := d, targetId := i, len := n, cksum := n ^^^ c, wr := 0, rd := 0, cmd := c }

theorem rxFeed_header {q : Port} {d i n : Byte} (c : Byte) (hq : q.state = .idle) (hd : d = 0x3C ∨ d = 0x3E)
    (hn : n.toNat ≤ 64) :
    rxFeed q [Config.sync0, Config.sync1, d, i, n, c] = .ok (q.header d i n c, List.replicate 6 .consumed) := by
  have hfeed : rxFeed q [Config.sync0, Config.sync1, d, i, n, c] = .ok (_, [_, _, _, _, _, _]) :=
    rxFeed_cons (.idleSync hq rfl) <| rxFeed_cons (.startM rfl rfl) <| rxFeed_cons (.mDir rfl hd) <|
      rxFeed_cons (.arrowId rfl) <| rxFeed_cons (.idLenOk rfl hn) <| rxFeed_cons (.sizeCmd rfl) rfl
  exact hfeed

/-- What payload bytes make of a port (R131). -/
def Port.storeAll (q : Port) (pl : List Byte) : Port :=
  { q with
    buf := Memory.writeAll q.buf q.wr.toNat pl, cksum := q.cksum ^^^ xorList pl, wr := q.wr + BitVec.ofNat 7 pl.length }

theorem Port.storeAll_cons {q : Port} (hwr : q.wr.toNat < Config.bufCap) (b : Byte) (pl : List Byte) :
    (q.storePayload b).storeAll pl = q.storeAll (b :: pl) := by
  have hcursor : q.wr + 1 + BitVec.ofNat 7 pl.length = q.wr + BitVec.ofNat 7 (pl.length + 1) := by
    rw [Nat.add_comm, BitVec.ofNat_add, BitVec.add_assoc]; rfl
  have hnext := Port.storePayload_wr hwr b
  simp only [Port.storeAll, hnext, Memory.writeAll, xorList_cons, List.length_cons]
  simp only [Port.storePayload, hcursor, BitVec.xor_assoc]

theorem rxFeed_payload {q : Port} {pl : List Byte} (hs : q.state = .headerCmd) (hlen : q.len.toNat ≤ Config.bufCap)
    (hwr : q.wr.toNat + pl.length ≤ q.len.toNat) :
    rxFeed q pl = .ok (q.storeAll pl, List.replicate pl.length .consumed) := by
  induction pl generalizing q with
  | nil => simp [rxFeed, Port.storeAll, Memory.writeAll, xorList]
  | cons b pl ih =>
    simp only [List.length_cons] at hwr
    have hlt : q.wr.toNat < q.len.toNat := by omega
    have hcap := hlt.trans_le hlen
    have hnext : (q.storePayload b).wr.toNat + pl.length ≤ q.len.toNat := by
      rw [Port.storePayload_wr hcap]; omega
    rw [← Port.storeAll_cons hcap]
    exact rxFeed_cons (.cmdPayload hs hlt hcap) (ih (q := q.storePayload b) hs hlen hnext)

/-- What a frame but for its trailer makes of an idle port. -/
def Port.receiveBody (q : Port) (d i c : Byte) (pl : List Byte) : Port :=
  (q.header d i (BitVec.ofNat 8 pl.length) c).storeAll pl

section
variable (q : Port) (d i c : Byte) (pl : List Byte)

@[simp] theorem Port.receiveBody_state : (q.receiveBody d i c pl).state = .headerCmd := rfl
@[simp] theorem Port.receiveBody_dir : (q.receiveBody d i c pl).dir = d := rfl
@[simp] theorem Port.receiveBody_targetId : (q.receiveBody d i c pl).targetId = i := rfl
@[simp] theorem Port.receiveBody_len : (q.receiveBody d i c pl).len = BitVec.ofNat 8 pl.length := rfl
@[simp] theorem Port.receiveBody_cmd : (q.receiveBody d i c pl).cmd = c := rfl
@[simp] theorem Port.receiveBody_rd : (q.receiveBody d i c pl).rd = 0 := rfl
@[simp] theorem Port.receiveBody_cksum :
    (q.receiveBody d i c pl).cksum = checksum (BitVec.ofNat 8 pl.length) c pl := rfl

theorem Port.receiveBody_wr {pl : List Byte} (hpl : pl.length ≤ 64) :
    (q.receiveBody d i c pl).wr.toNat = pl.length := by
  simp only [Port.receiveBody, Port.storeAll, Port.header]
  bv_omega

theorem Port.receiveBody_buf {j : Nat} (hj : j < pl.length) :
    Memory.read (q.receiveBody d i c pl).buf j = pl[j]? := by
  have hcell := Memory.read_writeAll (m := q.buf) (i := 0) hj
  rwa [Nat.zero_add] at hcell

end

/-- The bytes of a frame but for its trailer (R90). -/
def frameBody (d i c : Byte) (pl : List Byte) : List Byte :=
  [Config.sync0, Config.sync1, d, i, BitVec.ofNat 8 pl.length, c] ++ pl

theorem serialize_eq_frameBody (d i c : Byte) (pl : List Byte) :
    serialize d i c pl = frameBody d i c pl ++ [checksum (BitVec.ofNat 8 pl.length) c pl] := rfl

theorem toNat_ofNat_length {pl : List Byte} (hpl : pl.length ≤ 64) : (BitVec.ofNat 8 pl.length).toNat = pl.length := by
  rw [BitVec.toNat_ofNat]; omega

section
variable {q : Port} {d : Byte} (i c : Byte) {pl : List Byte} (hq : q.state = .idle) (hd : d = 0x3C ∨ d = 0x3E)
  (hpl : pl.length ≤ 64)
include hq hd hpl

theorem rxFeed_frameBody :
    rxFeed q (frameBody d i c pl) = .ok (q.receiveBody d i c pl, List.replicate (6 + pl.length) .consumed) := by
  have hn := toNat_ofNat_length hpl
  rw [List.replicate_add]
  refine rxFeed_append (rxFeed_header c hq hd (by omega)) (rxFeed_payload rfl ?_ ?_)
  · simp only [Port.header, Config.bufCap]; omega
  · simp only [Port.header, hn]; simp

/-- The right trailer completes the frame (R132, R135). -/
theorem rxFeed_serialize :
    rxFeed q (serialize d i c pl) =
      .ok ((q.receiveBody d i c pl).complete, List.replicate (6 + pl.length) .consumed ++ [.frameDone]) := by
  have hwr := Port.receiveBody_wr q d i c hpl
  have hn := toNat_ofNat_length hpl
  refine rxFeed_append (rxFeed_frameBody i c hq hd hpl) (rxFeed_cons (.cmdTrailerOk rfl ?_ rfl) rfl)
  rw [hwr, Port.receiveBody_len, hn]; omega

/-- Any other trailer discards it (R133, R285). -/
theorem rxFeed_frameBody_wrongTrailer {k : Byte} (hk : k ≠ checksum (BitVec.ofNat 8 pl.length) c pl) :
    rxFeed q (frameBody d i c pl ++ [k]) =
      .ok ((q.receiveBody d i c pl).fail, List.replicate (6 + pl.length) .consumed ++ [.checksumDiscard]) := by
  have hwr := Port.receiveBody_wr q d i c hpl
  have hn := toNat_ofNat_length hpl
  refine rxFeed_append (rxFeed_frameBody i c hq hd hpl) (rxFeed_cons (.cmdTrailerBad rfl ?_ hk) rfl)
  rw [hwr, Port.receiveBody_len, hn]; omega

/-- No proper part of the frame leaves a frame held: the bytes after it would be dropped, and the last one is not. -/
theorem rxFeed_take_serialize {n : Nat} (hn : n < 7 + pl.length) :
    ∃ q' es, rxFeed q ((serialize d i c pl).take n) = .ok (q', es) ∧ q'.state ≠ .commandReceived := by
  have hwhole := rxFeed_serialize i c hq hd hpl
  rw [← List.take_append_drop n (serialize d i c pl)] at hwhole
  obtain ⟨q', es, es', htake, hdrop, hes⟩ := rxFeed_append_inv hwhole
  refine ⟨q', es, htake, fun hheld => ?_⟩
  have hdropped := (rxFeed_of_held hheld hdrop).2
  have hlen : es'.length ≠ 0 := by
    rw [length_of_rxFeed hdrop, List.length_drop, length_serialize]; omega
  have hlast : es'.getLast? = some .frameDone := by
    rw [← List.getLast?_append_of_ne_nil es (by simpa using hlen), ← hes]; simp
  exact absurd (hdropped _ (List.mem_of_getLast? hlast)) (by decide)

end

/-- Settles O14: six header bytes, the payload and the right trailer, each by its row; a frame held before the last byte
would have dropped that byte. -/
theorem wellFormedFrameIsAccepted : Obligations.WellFormedFrameIsAccepted := by
  intro q d i c pl hq hd hpl
  have htrailer : some (checksum (BitVec.ofNat 8 pl.length) c pl) = (serialize d i c pl).getLast? := by
    simp [serialize_eq_frameBody]
  have haccepted := rxFeed_serialize i c hq hd hpl
  refine ⟨length_serialize d i c pl, ⟨_, haccepted, rfl, rfl, rfl, toNat_ofNat_length hpl, rfl,
    fun j hj => Port.receiveBody_buf q d i c pl hj, Port.receiveBody_wr q d i c hpl, rfl, htrailer⟩,
    fun n hn => rxFeed_take_serialize i c hq hd hpl hn⟩

end Sys2Proof.Machine

namespace Sys2Proof.Machine

/-! ### A frame with one bit flipped (R137) -/

theorem xorList_append (as bs : List Byte) : xorList (as ++ bs) = xorList as ^^^ xorList bs := by
  rw [xorList, List.foldl_append, foldl_xor_eq_xor_xorList]
  rfl

/-- What is XORed into the command code enters the checksum. -/
theorem checksum_xor_cmd (n c x : Byte) (pl : List Byte) : checksum n (c ^^^ x) pl = checksum n c pl ^^^ x := by
  simp only [checksum]
  ac_rfl

/-- What is XORed into a payload byte enters the checksum. -/
theorem checksum_xor_payload (n c x b : Byte) (as bs : List Byte) :
    checksum n c (as ++ (b ^^^ x) :: bs) = checksum n c (as ++ b :: bs) ^^^ x := by
  simp only [checksum, xorList_append, xorList_cons]
  ac_rfl

theorem xor_xor_self_left (a x : Byte) : a ^^^ (a ^^^ x) = x := by
  rw [← BitVec.xor_assoc, BitVec.xor_self, BitVec.zero_xor]

theorem modify_of_eq_append {α : Type} {l as bs : List α} {b : α} {n : Nat} (f : α → α) (hl : l = as ++ b :: bs)
    (hn : as.length = n) : l.modify n f = as ++ f b :: bs := by
  subst hl hn
  exact List.modifyTailIdx_add (List.modifyHead f) 0 as (b :: bs)

/-- XORing `x` into the code, a payload byte or the trailer leaves bytes of a frame's shape whose trailer differs from
their checksum by `x`. -/
theorem serialize_modify_xor (d i c x : Byte) (pl : List Byte) {n : Nat} (h5 : 5 ≤ n) (hn : n < 7 + pl.length) :
    ∃ c' pl' k, pl'.length = pl.length ∧ (serialize d i c pl).modify n (· ^^^ x) = frameBody d i c' pl' ++ [k] ∧
      k ^^^ checksum (BitVec.ofNat 8 pl.length) c' pl' = x := by
  obtain ⟨j, rfl⟩ := Nat.exists_eq_add_of_le h5
  cases j with
  | zero =>
    refine ⟨c ^^^ x, pl, checksum (BitVec.ofNat 8 pl.length) c pl, rfl, rfl, ?_⟩
    rw [checksum_xor_cmd, xor_xor_self_left]
  | succ j =>
    by_cases hj : j < pl.length
    · obtain ⟨as, b, bs, rfl, rfl⟩ : ∃ as b bs, pl = as ++ b :: bs ∧ j = as.length :=
        ⟨pl.take j, pl[j], pl.drop (j + 1), by simp, by simp; omega⟩
      let m : Byte := BitVec.ofNat 8 (as ++ b :: bs).length
      refine ⟨c, as ++ (b ^^^ x) :: bs, checksum m c (as ++ b :: bs), by simp, ?_, ?_⟩
      · have hframe : serialize d i c (as ++ b :: bs) =
            (Config.sync0 :: Config.sync1 :: d :: i :: m :: c :: as) ++ b :: (bs ++ [checksum m c (as ++ b :: bs)]) := by
          simp [serialize, m]
        rw [modify_of_eq_append _ hframe (by simp; omega)]
        simp [frameBody, m]
      · rw [checksum_xor_payload, xor_xor_self_left]
    · obtain rfl : j = pl.length := by omega
      refine ⟨c, pl, checksum (BitVec.ofNat 8 pl.length) c pl ^^^ x, rfl, ?_, ?_⟩
      · exact modify_of_eq_append _ (serialize_eq_frameBody d i c pl) (by simp [frameBody]; omega)
      · rw [BitVec.xor_comm, xor_xor_self_left]

/-- Settles O16: the flipped bit leaves a frame's bytes with a wrong trailer. -/
theorem flippedBitAfterLengthIsDiscarded : Obligations.FlippedBitAfterLengthIsDiscarded := by
  intro q d i c pl n k hq hd hpl h5 hn hk
  obtain ⟨c', pl', t, hlen, hbytes, hdiff⟩ := serialize_modify_xor d i c (BitVec.twoPow 8 k) pl h5 hn
  have hflip : BitVec.twoPow 8 k ≠ 0 := by
    intro h
    have hbit := congrArg (·.getLsbD k) h
    simp [hk] at hbit
  have hwrong : t ≠ checksum (BitVec.ofNat 8 pl'.length) c' pl' := by
    rintro rfl
    rw [hlen, BitVec.xor_self] at hdiff
    exact hflip hdiff.symm
  have hfeed := rxFeed_frameBody_wrongTrailer i c' hq hd (hlen ▸ hpl) hwrong
  rw [hlen, ← hbytes] at hfeed
  exact ⟨_, hfeed, rfl⟩

/-- An idle port that fails is as it was (R282). -/
theorem Port.fail_of_idle {q : Port} (hq : q.state = .idle) : q.fail = q := by
  rw [Port.fail, ← hq]

/-- Settles O17: the length guard is the fifth byte's, and only the direction and the target id are written
before it. -/
theorem oversizeLengthWritesNothingBehindTheGuard : Obligations.OversizeLengthWritesNothingBehindTheGuard := by
  intro q d i b hq hd hb
  have hreject : ¬ b.toNat ≤ Config.bufCap := hb.not_ge
  have hfeed : rxFeed q [Config.sync0, Config.sync1, d, i, b] =
      .ok (({ q with dir := d, targetId := i } : Port).fail, [.consumed, .consumed, .consumed, .consumed, .lengthReject]) :=
    rxFeed_cons (.idleSync hq rfl) <| rxFeed_cons (.startM rfl rfl) <| rxFeed_cons (.mDir rfl hd) <|
      rxFeed_cons (.arrowId rfl) <| rxFeed_cons (.idLenReject rfl hreject) rfl
  rw [Port.fail_of_idle (q := { q with dir := d, targetId := i }) hq] at hfeed
  exact hfeed

end Sys2Proof.Machine

namespace Sys2Proof.Machine

/-! ### What a port has taken in of the frame it is receiving (R43, R136) -/

/-- The header bytes of a frame, up to its command code, as a port holds them. -/
def Port.headerBytes (q : Port) : List Byte := [Config.sync0, Config.sync1, q.dir, q.targetId, q.len, q.cmd]

/-- `fr` is what a port has taken in since it was last idle: the bytes that stand in its fields, and in `HeaderCmd` the
payload stored so far with the checksum over it. What is dropped behind a completed frame is not followed. -/
def Port.Taken (q : Port) (fr : List Byte) : Prop :=
  match q.state with
  | .idle => fr = []
  | .frameStart => fr = q.headerBytes.take 1
  | .headerM => fr = q.headerBytes.take 2
  | .headerArrow => fr = q.headerBytes.take 3 ∧ (q.dir = Config.dirAction ∨ q.dir = Config.dirQuery)
  | .headerDeviceId => fr = q.headerBytes.take 4 ∧ (q.dir = Config.dirAction ∨ q.dir = Config.dirQuery)
  | .headerSize =>
    fr = q.headerBytes.take 5 ∧ (q.dir = Config.dirAction ∨ q.dir = Config.dirQuery) ∧
      q.len.toNat ≤ Config.bufCap ∧ q.wr = 0 ∧ q.cksum = q.len
  | .headerCmd => ∃ pl : List Byte,
    fr = q.headerBytes ++ pl ∧ (q.dir = Config.dirAction ∨ q.dir = Config.dirQuery) ∧
      q.len.toNat ≤ Config.bufCap ∧ q.wr.toNat = pl.length ∧
      pl.length ≤ q.len.toNat ∧ (∀ j, j < pl.length → Memory.read q.buf j = pl[j]?) ∧
      q.cksum = checksum q.len q.cmd pl
  | .commandReceived => True

theorem Port.taken_of_idle {q : Port} (hs : q.state = .idle) : q.Taken [] := by simp [Port.Taken, hs]

/-- The events after which a port has abandoned, or never begun, what it has consumed (R281 to R285, R122). -/
def abandoning : List Event := [.rejected, .resync, .lengthReject, .checksumDiscard]

/-- A payload byte is one more byte taken in, and one more under the checksum (R131). -/
theorem taken_storePayload {q : Port} {b : Byte} {fr : List Byte} (ht : q.Taken fr) (hs : q.state = .headerCmd)
    (hwr : q.wr.toNat < q.len.toNat) (hcap : q.wr.toNat < Config.bufCap) : (q.storePayload b).Taken (fr ++ [b]) := by
  simp only [Port.Taken, hs] at ht
  obtain ⟨pl, rfl, hdir, hlen, hpl, -, hcells, hck⟩ := ht
  have hs' : (q.storePayload b).state = .headerCmd := hs
  simp only [Port.Taken, hs']
  refine ⟨pl ++ [b], List.append_assoc .., hdir, hlen, ?_, ?_, ?_, ?_⟩
  · rw [Port.storePayload_wr hcap, hpl, List.length_append]; rfl
  · rw [List.length_append, ← hpl]; exact hwr
  · intro j hj
    simp only [List.length_append, List.length_singleton] at hj
    by_cases hold : j < pl.length
    · rw [List.getElem?_append_left hold, ← hcells j hold]
      exact Memory.read_write_of_ne q.buf b (by omega)
    · obtain rfl : j = pl.length := by omega
      rw [List.getElem?_concat_length, ← hpl]
      exact Memory.read_write_self q.buf q.wr.toNat b
  · calc q.cksum ^^^ b
      _ = checksum q.len q.cmd pl ^^^ b := by rw [hck]
      _ = checksum q.len q.cmd (pl ++ [b]) := (checksum_concat ..).symm

/-- Every byte adds to what is taken in, or what was taken in is abandoned and the port is idle. -/
theorem RxRow.taken {q q' : Port} {b : Byte} {e : Event} {fr : List Byte} (h : RxRow q b q' e) (ht : q.Taken fr) :
    q'.Taken (fr ++ [b]) ∨ (e ∈ abandoning ∧ q'.Taken []) := by
  cases h with
  | idleSync hs | startM hs | arrowId hs => exact .inl (by simp_all [Port.Taken, Port.headerBytes])
  | mDir hs hdir => exact .inl ⟨by simp_all [Port.Taken, Port.headerBytes], hdir⟩
  | idLenOk hs hlen =>
    simp only [Port.Taken, hs] at ht
    exact .inl ⟨by simp [ht.1, Port.headerBytes], ht.2, hlen, rfl, rfl⟩
  | sizeCmd hs =>
    simp only [Port.Taken, hs] at ht
    obtain ⟨rfl, hdir, hlen, hwr, hck⟩ := ht
    have hempty : q.cksum ^^^ b = checksum q.len b [] := by simp [checksum, xorList, hck]
    exact .inl ⟨[], by simp [Port.headerBytes], hdir, hlen, by simp [hwr], by simp, by simp, hempty⟩
  | cmdPayload hs hwr hcap => exact .inl (taken_storePayload ht hs hwr hcap)
  | cmdTrailerOk | doneDrop => exact .inl (by simp_all [Port.Taken])
  | idleReject hs => exact .inr ⟨by decide, Port.taken_of_idle hs⟩
  | startResync | mResync | idLenReject | cmdTrailerBad => exact .inr ⟨by decide, Port.taken_of_idle rfl⟩

/-- What a stream leaves taken in is the end of it, and all of it where nothing was abandoned. -/
theorem taken_of_rxFeed {q q' : Port} {fr bs : List Byte} {es : List Event} (ht : q.Taken fr)
    (h : rxFeed q bs = .ok (q', es)) :
    ∃ noise fr', fr ++ bs = noise ++ fr' ∧ q'.Taken fr' ∧ ((∀ e ∈ es, e ∉ abandoning) → noise = []) := by
  induction bs generalizing q fr es with
  | nil =>
    cases h
    exact ⟨[], fr, by simp, ht, fun _ => rfl⟩
  | cons b bs ih =>
    obtain ⟨q₁, e, es', hrow, hfeed, rfl⟩ := rxFeed_cons_inv h
    obtain htaken | ⟨he, hidle⟩ := hrow.taken ht
    · obtain ⟨noise, fr', hsplit, htaken', hnoise⟩ := ih htaken hfeed
      exact ⟨noise, fr', by simpa using hsplit, htaken', fun hes => hnoise fun e' he' => hes e' (.tail _ he')⟩
    · obtain ⟨noise, fr', rfl, htaken', -⟩ := ih hidle hfeed
      exact ⟨fr ++ b :: noise, fr', by simp, htaken', fun hes => absurd he (hes e List.mem_cons_self)⟩

/-- At the trailer of a completed frame what was taken in is that frame (R132). -/
theorem RxRow.taken_frameDone {q q' : Port} {b : Byte} {fr : List Byte} (h : RxRow q b q' .frameDone)
    (ht : q.Taken fr) :
    ∃ pl, fr ++ [b] = serialize q'.dir q'.targetId q'.cmd pl ∧
      (q'.dir = Config.dirAction ∨ q'.dir = Config.dirQuery) ∧ q'.len.toNat ≤ Config.bufCap ∧ q'.Carries pl := by
  obtain ⟨hs, hwr, rfl, rfl⟩ := h.of_frameDone
  simp only [Port.Taken, hs] at ht
  obtain ⟨pl, rfl, hdir, hlen, hpl, hle, hcells, hck⟩ := ht
  have hlength : pl.length = q.len.toNat := by omega
  have hn : BitVec.ofNat 8 pl.length = q.len := by simp [hlength]
  refine ⟨pl, ?_, hdir, hlen, hlength, ?_, ?_⟩
  · simp [serialize, hn, hck, Port.headerBytes]
  · simpa [hlength] using hlen
  · simpa using hcells

/-- A frame completed by an idle port's stream: the stream ends with it, and is it where nothing was abandoned. -/
theorem rxFeed_frameDone {q q' : Port} {bs : List Byte} {es : List Event} (hq : q.state = .idle)
    (h : rxFeed q bs = .ok (q', es ++ [.frameDone])) :
    ∃ noise pl, bs = noise ++ serialize q'.dir q'.targetId q'.cmd pl ∧ q'.state = .commandReceived ∧
      (q'.dir = Config.dirAction ∨ q'.dir = Config.dirQuery) ∧ q'.len.toNat ≤ Config.bufCap ∧ q'.Carries pl ∧
      ((∀ e ∈ es, e ∉ abandoning) → noise = []) := by
  obtain ⟨init, b, q₁, rfl, hfeed, hrow⟩ := rxFeed_concat_inv h
  obtain ⟨noise, fr, rfl, htaken, hnoise⟩ := taken_of_rxFeed (Port.taken_of_idle hq) hfeed
  obtain ⟨pl, hframe, hdir, hlen, hcarries⟩ := hrow.taken_frameDone htaken
  obtain ⟨-, -, -, hcomplete⟩ := hrow.of_frameDone
  refine ⟨noise, pl, ?_, hcomplete ▸ Port.complete_state _, hdir, hlen, hcarries, hnoise⟩
  rw [List.append_assoc, hframe]

/-- Settles O15: the stream ends with what the port had taken in, which at the trailer is a frame. -/
theorem onlyWellFormedFramesAreAccepted : Obligations.OnlyWellFormedFramesAreAccepted := by
  intro q q' bs es hq h
  obtain ⟨noise, pl, hbs, -, hdir, hlen, hcarries, -⟩ := rxFeed_frameDone hq h
  exact ⟨noise, pl, hbs, hdir, hlen, hcarries⟩

/-! ### Replies at a receive framer (R185, R102) -/

/-- Two bytes that are no start of a frame leave an idle port as it was. -/
theorem rxFeed_pair_of_idle {q : Port} {a b : Byte} (hq : q.state = .idle) (hsync : a = Config.sync0 → b ≠ Config.sync1)
    (hreject : a ≠ Config.sync0 → b ≠ Config.sync0) : ∃ es, .frameDone ∉ es ∧ rxFeed q [a, b] = .ok (q, es) := by
  by_cases ha : a = Config.sync0
  · have hfeed : rxFeed q [a, b] = .ok (q.fail, [.consumed, .resync]) :=
      rxFeed_cons (.idleSync hq ha) (rxFeed_cons (.startResync rfl (hsync ha)) rfl)
    exact ⟨_, by decide, Port.fail_of_idle hq ▸ hfeed⟩
  · exact ⟨[.rejected, .rejected], by decide,
      rxFeed_cons (.idleReject hq ha) (rxFeed_cons (.idleReject hq (hreject ha)) rfl)⟩

/-- The direction is checked at the third byte, so an error reply is abandoned there; what follows is no frame. -/
theorem rxFeed_replyErr {q : Port} {dirError : Byte} (i c : Byte) (hq : q.state = .idle)
    (hd : ¬ (dirError = Config.dirAction ∨ dirError = Config.dirQuery)) :
    ∃ es, .frameDone ∉ es ∧
      rxFeed q (replyErr dirError i c) = .ok (q, .consumed :: .consumed :: .resync :: es) := by
  have hhead : rxFeed q [0x24, 0x4D, dirError] = .ok (q.fail, [.consumed, .consumed, .resync]) :=
    rxFeed_cons (.idleSync hq rfl) <| rxFeed_cons (.startM rfl rfl) <| rxFeed_cons (.mResync rfl hd) rfl
  rw [Port.fail_of_idle hq] at hhead
  obtain ⟨es, hes, hfeed⟩ := rxFeed_pair_of_idle (a := i) (b := 0) hq (fun _ => by decide) (fun _ => by decide)
  obtain ⟨es', hes', hfeed'⟩ := rxFeed_pair_of_idle (a := c) (b := c) hq (by rintro rfl; decide) id
  rw [replyErr_eq]
  exact ⟨es ++ es', by simp [hes, hes'], rxFeed_append hhead (rxFeed_append hfeed hfeed')⟩

/-- A completed frame carries its payload. -/
theorem carries_receiveBody (q : Port) (d i c : Byte) {pl : List Byte} (hpl : pl.length ≤ 64) :
    (q.receiveBody d i c pl).complete.Carries pl := by
  refine ⟨(toNat_ofNat_length hpl).symm, (Nat.zero_add _).trans_le hpl, fun j hj => ?_⟩
  rw [Nat.zero_add]
  exact Port.receiveBody_buf q d i c pl hj

/-- Settles O31: a success reply is a well-formed frame; an error reply's third byte is no direction. -/
theorem successRepliesAreFramesErrorRepliesAreNot : Obligations.SuccessRepliesAreFramesErrorRepliesAreNot := by
  intro q i c hq
  refine ⟨fun pl hpl => ?_, fun k hk => ?_⟩
  · exact ⟨_, _, rxFeed_serialize i c hq (.inr rfl) hpl, rfl, rfl, rfl, rfl, carries_receiveBody q _ i c hpl⟩
  · obtain ⟨hquery, haction, -⟩ := hk
    exact rxFeed_replyErr i c hq (by simp [hquery, haction])

/-! ### The pass-through arm of a received frame (R208, R209) -/

theorem payload_eq {q : Port} {pl : List Byte} (h : q.Carries pl) : q.payload = .ok pl := by
  rw [Port.payload, ← h.1]
  exact bufReads_ok h.2

theorem relayPassArm_eq {s : State} {ch : ChanId} {q : Port} {pl : List Byte} (h : q.Carries pl) :
    relayPassArm s ch q = .next ((s.emit ch (serialize q.dir q.targetId q.cmd pl)).report .done) := by
  simp [relayPassArm, Port.passBytes, payload_eq h]

/-- Everything RELAY_PASS can do to a held frame that it completes for. -/
theorem exec_relayPass_next {s t : State} {p : PortId} {ch : ChanId} {q : Port} (hheld : s.Holds p q)
    (h : exec (.relayPass p ch) s = .next t) : relayPassArm s ch q = .next t := by
  obtain ⟨-, h⟩ := onChan_next h
  rw [onFrame_held hheld] at h
  split at h
  · cases h
  · exact h

/-- Settles O38: nothing was abandoned, so the frame the port holds is the whole stream, and the arm serialises it. -/
theorem relayedFrameIsByteIdentical : Obligations.RelayedFrameIsByteIdentical := by
  intro s t p ch q₀ q frame es hq₀ hfeed hdone hrejected hresync hlength hchecksum hq hexec bs hbs
  obtain ⟨noise, pl, hframe, hs, -, -, hcarries, hnoise⟩ := rxFeed_frameDone hq₀ hfeed
  have hkept : ∀ e ∈ es, e ∉ abandoning := by
    rintro e he hab
    simp only [abandoning, List.mem_cons, List.not_mem_nil, or_false] at hab
    obtain rfl | rfl | rfl | rfl := hab <;> contradiction
  have hwhole : frame = serialize q.dir q.targetId q.cmd pl := by rw [hframe, hnoise hkept, List.nil_append]
  have hemit := (relayPassArm_eq hcarries).symm.trans (exec_relayPass_next ⟨hq, hs⟩ hexec)
  cases hemit
  simp [hbs, hwhole]

end Sys2Proof.Machine

namespace Sys2Proof.Laws.RoundTrip

/-- The statement holds of every operation, each by its own lemma. -/
theorem statement : ∀ i : Instr, Statement i
  | .idleSync p => idleSync p
  | .idleReject p b => idleReject p b
  | .startM p => startM p
  | .startResync p b => startResync p b
  | .mDirAction p => mDirAction p
  | .mDirQuery p => mDirQuery p
  | .mResync p b => mResync p b
  | .arrowId p b => arrowId p b
  | .idLenOk p b => idLenOk p b
  | .idLenReject p b => idLenReject p b
  | .sizeCmd p b => sizeCmd p b
  | .cmdPayload p b => cmdPayload p b
  | .cmdTrailerOk p b => cmdTrailerOk p b
  | .cmdTrailerBad p b => cmdTrailerBad p b
  | .doneDrop p b => doneDrop p b
  | .frameView p => frameView p
  | .portRelease p => portRelease p
  | .hostRead8 p => hostRead8 p
  | .hostRead16 p => hostRead16 p
  | .hostRead32 p => hostRead32 p
  | .setLocalId v => setLocalId v
  | .getLocalId => getLocalId
  | .txReply ch c payload => txReply ch c payload
  | .txError ch c => txError ch c
  | .route p => route p
  | .relay p ch => relay p ch
  | .relayPass p ch => relayPass p ch
  | .relayRewrite p ch => relayRewrite p ch
  | .reset => reset
  | .queryVersion p ch => queryVersion p ch
  | .queryDeviceId p ch => queryDeviceId p ch
  | .queryStatus p ch => queryStatus p ch
  | .queryChannel p ch => queryChannel p ch
  | .queryRssi p ch => queryRssi p ch
  | .queryRssiThreshold p ch => queryRssiThreshold p ch
  | .queryRssiFilter p ch => queryRssiFilter p ch
  | .queryLapMax p ch => queryLapMax p ch
  | .queryLapMinTime p ch => queryLapMinTime p ch
  | .queryLastLap p ch => queryLastLap p ch
  | .querySelectedLap p ch => querySelectedLap p ch
  | .queryDebug p ch => queryDebug p ch
  | .actionReset p ch => actionReset p ch
  | .actionCalibrate p ch => actionCalibrate p ch
  | .actionStart p ch => actionStart p ch
  | .actionActivate p ch => actionActivate p ch
  | .actionDeactivate p ch => actionDeactivate p ch
  | .actionSetDeviceId p ch => actionSetDeviceId p ch
  | .actionSelectLap p ch => actionSelectLap p ch
  | .actionSetChannel p ch => actionSetChannel p ch
  | .actionSetRssiThreshold p ch => actionSetRssiThreshold p ch
  | .actionSetRssiFilter p ch => actionSetRssiFilter p ch
  | .actionSetLapMinTime p ch => actionSetLapMinTime p ch
  | .actionSetLapMax p ch => actionSetLapMax p ch
  | .actionSetDebug p ch => actionSetDebug p ch
  | .actionPersist p ch => actionPersist p ch
  | .unknownCommand p ch => unknownCommand p ch

end Sys2Proof.Laws.RoundTrip

namespace Sys2Proof.Machine

/-! ### Decoding what was encoded (30_encoding, sections 4 and 6) -/

/-- Settles O54: the round trip of every operation. -/
theorem decodeOfEncodeIsTheOperation : Obligations.DecodeOfEncodeIsTheOperation :=
  fun e i hcodes hwf hfits => Laws.RoundTrip.statement i e hcodes hwf hfits

/-- Settles O56: each of the four bytes is read in the parse state of its row. -/
theorem tableWordsDecodeToTheirRows : Obligations.TableWordsDecodeToTheirRows :=
  ⟨rfl, rfl, rfl, rfl⟩

/-! ### Encoding what was decoded -/

theorem portIs_of_getElem? {e : DecodeEnv} {p : PortId} {c : PortCtx} (hc : e.ports[p]? = some c) (f : PortCtx → Bool) :
    e.portIs p f = f c := by
  simp [DecodeEnv.portIs, hc]

theorem lt_of_getElem?_eq_some {α : Type} {l : List α} {n : Nat} {a : α} (h : l[n]? = some a) : n < l.length :=
  (List.getElem?_eq_some_iff.mp h).1

/-- The row the decode map selects is one of the device's, and its rule applies to the port as it stands (R100). -/
theorem decodeByte_wf_fits {e : DecodeEnv} {p : PortId} {c : PortCtx} (hc : e.ports[p]? = some c) (b : Byte) :
    (decodeByte c p b).wf e.ports.length e.nChans = true ∧ (decodeByte c p b).fits e = true := by
  have hp := lt_of_getElem?_eq_some hc
  cases hs : c.state
  case headerArrow | headerSize | commandReceived => simp [hs, Instr.wf, Instr.fits, hp, portIs_of_getElem? hc]
  case idle =>
    rw [decodeByte_idle p b hs]
    split <;> simp [*, Instr.wf, Instr.fits, portIs_of_getElem? hc]
  case frameStart =>
    rw [decodeByte_frameStart p b hs]
    split <;> simp [*, Instr.wf, Instr.fits, portIs_of_getElem? hc]
  case headerM =>
    rw [decodeByte_headerM p b hs]
    split
    · simp [*, Instr.wf, Instr.fits, portIs_of_getElem? hc]
    · split <;> simp [*, Instr.wf, Instr.fits, Byte.isDirection, portIs_of_getElem? hc]
  case headerDeviceId =>
    rw [decodeByte_headerDeviceId p b hs]
    split <;> simp [*, Instr.wf, Instr.fits, Byte.isLength, portIs_of_getElem? hc]
  case headerCmd =>
    by_cases hwr : c.wr.toNat < c.len.toNat
    · simp [decodeByte_payload p b hs hwr, Instr.wf, Instr.fits, hp, hs, hwr, portIs_of_getElem? hc]
    · rw [decodeByte_trailer p b hs hwr]
      split <;> simp_all [Instr.wf, Instr.fits, portIs_of_getElem? hc]

/-- A request names a control operation: nothing is asked of the ports, and what it carries is what it takes. -/
theorem request_wf_fits_encode {e : DecodeEnv} {r : Request} {i : Instr} (h : decodeRequest e r = .ok i) :
    i.wf e.ports.length e.nChans = true ∧ i.fits e = true ∧ encode i = .request r := by
  obtain ⟨op, port, chan, val, payload⟩ := r
  simp only [decodeRequest] at h
  split at h
  · cases h
  · rename_i hstray
    split at h
    · cases h
    · rename_i hport
      split at h
      · cases h
      · rename_i hchan
        cases h
        cases op <;> simp_all [Request.instr, Request.strayFree, OpName.operands, Instr.wf, Instr.fits, encode]

theorem mem_of_lookup {α : Type} {l : List (Byte × α)} {k : Byte} {v : α} (h : l.lookup k = some v) : (k, v) ∈ l := by
  obtain ⟨l₁, l₂, rfl, -⟩ := List.lookup_eq_some_iff.mp h
  simp

theorem not_mem_of_lookup {α : Type} {l : List (Byte × α)} {k : Byte} (h : l.lookup k = none) : k ∉ l.map Prod.fst := by
  intro hk
  obtain ⟨entry, hentry, rfl⟩ := List.mem_map.mp hk
  simpa using List.lookup_eq_none_iff.mp h entry hentry

/-- Each entry of the two command tables is a command row: its port and channel exist, its code is the one it stands
under, and it is asked for by a dispatch. -/
theorem commandTable_row (e : DecodeEnv) (p : PortId) (ch : ChanId) :
    ∀ entry ∈ queryTable e.codes ++ actionTable e.codes,
      (entry.2 p ch).wf e.ports.length e.nChans = (decide (p < e.ports.length) && decide (ch < e.nChans)) ∧
        (entry.2 p ch).fits e = e.portIs p (fun c => c.cmd == entry.1) ∧ encode (entry.2 p ch) = .dispatch p ch := by
  simp [queryTable, actionTable, Instr.wf, Instr.fits, encode]

theorem decodeCommand_wf_fits_encode {e : DecodeEnv} {p : PortId} {ch : ChanId} {c : PortCtx}
    (hc : e.ports[p]? = some c) (hch : ch < e.nChans) :
    (decodeCommand e.codes p ch c.cmd).wf e.ports.length e.nChans = true ∧
      (decodeCommand e.codes p ch c.cmd).fits e = true ∧
      encode (decodeCommand e.codes p ch c.cmd) = .dispatch p ch := by
  have hp := lt_of_getElem?_eq_some hc
  have htable : ∀ f, (c.cmd, f) ∈ queryTable e.codes ++ actionTable e.codes →
      (f p ch).wf e.ports.length e.nChans = true ∧ (f p ch).fits e = true ∧ encode (f p ch) = .dispatch p ch := by
    intro f hf
    obtain ⟨hwf, hfits, henc⟩ := commandTable_row e p ch _ hf
    exact ⟨by simp [hwf, hp, hch], by simp [hfits, portIs_of_getElem? hc], henc⟩
  unfold decodeCommand
  split
  · rename_i f hf
    exact htable f (List.mem_append_left _ (mem_of_lookup hf))
  · rename_i hquery
    split
    · rename_i f hf
      exact htable f (List.mem_append_right _ (mem_of_lookup hf))
    · rename_i haction
      have hcode : c.cmd ∉ e.codes.queries ++ e.codes.actions :=
        List.not_mem_append (not_mem_of_lookup hquery) (not_mem_of_lookup haction)
      refine ⟨by simp [Instr.wf, hp, hch], ?_, rfl⟩
      simpa [Instr.fits, portIs_of_getElem? hc] using hcode

/-- Settles O55: by the kind of input. -/
theorem decodedOperationIsWellFormedAndEncodesBack : Obligations.DecodedOperationIsWellFormedAndEncodesBack := by
  intro e inp i h
  cases inp with
  | byte p b =>
    simp only [decode] at h
    split at h
    · rename_i c hc
      cases h
      obtain ⟨hwf, hfits⟩ := decodeByte_wf_fits hc b
      exact ⟨hwf, hfits, encode_decodeByte c p b⟩
    · cases h
  | request r => exact request_wf_fits_encode h
  | dispatch p ch =>
    simp only [decode] at h
    split at h
    · rename_i c hc
      split at h
      · rename_i hch
        cases h
        exact decodeCommand_wf_fits_encode hc hch
      · cases h
    · cases h
  | measure m => cases h
  | setDeviceState v => cases h

end Sys2Proof.Machine

namespace Sys2Proof.Machine

/-! ### The step (20_memory section 6, 40_rx_framer section 1) -/

/-- A step on an input the decoder reads performs the operation (R77, R81). -/
theorem step_of_decode {s : State} {inp : Input} {rest : List Input} {i : Instr} (hpend : s.pending = inp :: rest)
    (hdecode : decode s.env inp = .ok i) : step s = exec i { s with pending := rest } := by
  cases inp with
  | measure | setDeviceState => cases hdecode
  | byte | request | dispatch => simp only [step, hpend, hdecode]

/-- A step on an input the decoder rejects is refused (log 12). -/
theorem step_of_reject {s : State} {inp : Input} {rest : List Input} {r : Reject} (hpend : s.pending = inp :: rest)
    (hmeasure : ∀ m, inp ≠ .measure m) (hset : ∀ v, inp ≠ .setDeviceState v) (hdecode : decode s.env inp = .error r) :
    step s = .refused (.undecodable r) := by
  cases inp with
  | measure m => exact absurd rfl (hmeasure m)
  | setDeviceState v => exact absurd rfl (hset v)
  | byte | request | dispatch => simp only [step, hpend, hdecode]

/-- Everything a step can do. -/
theorem step_cases (s : State) :
    (s.pending = [] ∧ step s = .next s) ∨
      ∃ inp rest, s.pending = inp :: rest ∧
        ((∃ i, decode s.env inp = .ok i ∧ step s = exec i { s with pending := rest }) ∨
          (∃ r, decode s.env inp = .error r ∧ step s = .refused (.undecodable r)) ∨
          (∃ m, inp = .measure m ∧ step s = .next ({ s with pending := rest }.measure m)) ∨
          ∃ v, inp = .setDeviceState v ∧ step s = .next ({ s with pending := rest }.setDeviceState v)) := by
  cases hpend : s.pending with
  | nil => exact .inl ⟨rfl, by simp only [step, hpend]⟩
  | cons inp rest =>
    refine .inr ⟨inp, rest, rfl, ?_⟩
    by_cases hmeasure : ∃ m, inp = .measure m
    · obtain ⟨m, rfl⟩ := hmeasure
      exact .inr (.inr (.inl ⟨m, rfl, by simp only [step, hpend]⟩))
    by_cases hset : ∃ v, inp = .setDeviceState v
    · obtain ⟨v, rfl⟩ := hset
      exact .inr (.inr (.inr ⟨v, rfl, by simp only [step, hpend]⟩))
    cases hdecode : decode s.env inp with
    | ok i => exact .inl ⟨i, rfl, step_of_decode hpend hdecode⟩
    | error r => exact .inr (.inl ⟨r, rfl, step_of_reject hpend (not_exists.mp hmeasure) (not_exists.mp hset) hdecode⟩)

/-- Settles O57: by the kind of input. -/
theorem stepPerformsTheDecodedOperation : Obligations.StepPerformsTheDecodedOperation := by
  intro s inp rest
  refine ⟨fun hpend => by simp only [step, hpend], fun hpend => ⟨?_, ?_, ?_, ?_⟩⟩
  · exact fun i hdecode => step_of_decode hpend hdecode
  · exact fun r hmeasure hset hdecode => step_of_reject hpend hmeasure hset hdecode
  · rintro m rfl
    exact ⟨boundMeasured m, rfl, rfl, by simp only [step, hpend]; rfl⟩
  · rintro v rfl
    simp only [step, hpend]
    rfl

/-- On the row of the transition table that applies, the operation decoded from the byte does what the row says. -/
theorem RxRow.exec_decodeByte {s : State} {p : PortId} {q q' : Port} {b : Byte} {e : Event} (h : RxRow q b q' e)
    (hq : s.ports[p]? = some q) :
    exec (decodeByte q.ctx p b) s = .next ((s.putPort p q').report (.event p e)) := by
  cases h with
  | idleSync hs hb =>
    rw [decodeByte_idle p b (c := q.ctx) hs, if_pos hb]
    exact byteRule_applies hq (by simp [hs]) _
  | idleReject hs hb =>
    rw [decodeByte_idle p b (c := q.ctx) hs, if_neg hb]
    exact byteRule_applies hq (by simp [hs, hb]) id
  | startM hs hb =>
    rw [decodeByte_frameStart p b (c := q.ctx) hs, if_pos hb]
    exact byteRule_applies hq (by simp [hs]) _
  | startResync hs hb =>
    rw [decodeByte_frameStart p b (c := q.ctx) hs, if_neg hb]
    exact byteRule_applies hq (by simp [hs, hb]) _
  | mDir hs hb =>
    rw [decodeByte_headerM p b (c := q.ctx) hs]
    obtain rfl | rfl := hb
    all_goals exact byteRule_applies hq (by simp [hs]) _
  | mResync hs hb =>
    obtain ⟨haction, hquery⟩ := not_or.mp hb
    rw [decodeByte_headerM p b (c := q.ctx) hs, if_neg haction, if_neg hquery]
    exact byteRule_applies hq (by simp [hs, haction, hquery]) _
  | arrowId hs =>
    rw [decodeByte_headerArrow p b (c := q.ctx) hs]
    exact byteRule_applies hq (by simp [hs]) _
  | idLenOk hs hb =>
    rw [decodeByte_headerDeviceId p b (c := q.ctx) hs, if_pos hb]
    exact byteRule_applies hq (by simp [hs, lenOk, hb]) _
  | idLenReject hs hb =>
    rw [decodeByte_headerDeviceId p b (c := q.ctx) hs, if_neg hb]
    exact byteRule_applies hq (by simpa [hs, lenOk] using hb) _
  | sizeCmd hs =>
    rw [decodeByte_headerSize p b (c := q.ctx) hs]
    exact byteRule_applies hq (by simp [hs]) _
  | cmdPayload hs hwr hcap =>
    rw [decodeByte_payload p b (c := q.ctx) hs hwr]
    exact exec_cmdPayload hq hs hwr hcap b
  | cmdTrailerOk hs hwr hb =>
    rw [decodeByte_trailer p b (c := q.ctx) hs hwr, Port.ctx_cksum, if_pos hb]
    exact byteRule_applies hq (by simpa [hs, hb, Port.cksumMatch] using hwr) _
  | cmdTrailerBad hs hwr hb =>
    rw [decodeByte_trailer p b (c := q.ctx) hs hwr, Port.ctx_cksum, if_neg hb]
    exact byteRule_applies hq (by simpa [hs, hb, Port.cksumMatch] using hwr) _
  | doneDrop hs =>
    rw [decodeByte_commandReceived p b (c := q.ctx) hs]
    exact byteRule_applies hq (by simp [hs]) id

/-- A payload byte at a write cursor outside the buffer faults, as `rxStep` does (log 6). -/
theorem exec_decodeByte_fault {s : State} {p : PortId} {q : Port} (hq : s.ports[p]? = some q)
    (hs : q.state = .headerCmd) (hwr : q.wr.toNat < q.len.toNat) (hcap : ¬ q.wr.toNat < Config.bufCap) (b : Byte) :
    exec (decodeByte q.ctx p b) s = .fault .bufferIndex := by
  rw [decodeByte_payload p b (c := q.ctx) hs hwr]
  simp [exec, execCmdPayload, onPort_some hq, hs, hwr, bufWrite, hcap]

theorem step_byte {s : State} {p : PortId} {q : Port} {b : Byte} {rest : List Input} (hq : s.ports[p]? = some q)
    (hpend : s.pending = .byte p b :: rest) : step s = exec (decodeByte q.ctx p b) { s with pending := rest } :=
  step_of_decode hpend (decode_byte hq rfl)

/-- Settles O11: a byte's row of the transition table is the row decoded, and both fault on the same ports. -/
theorem stepOnAByteIsRxStep : Obligations.StepOnAByteIsRxStep := by
  intro s p q b rest hq hpend
  rw [step_byte hq hpend]
  obtain ⟨q', e, hrow⟩ | ⟨hs, hwr, hcap, herr⟩ := rxStep_cases q b
  · rw [hrow.rxStep_eq]
    refine ⟨?_, fun _ hf => nomatch hf⟩
    intro _ _ hok
    cases hok
    exact hrow.exec_decodeByte hq
  · rw [herr]
    refine ⟨fun _ _ hok => (nomatch hok), ?_⟩
    intro _ hf
    cases hf
    exact exec_decodeByte_fault (s := { s with pending := rest }) hq hs hwr hcap b

/-- Settles O9: DONE_DROP is the one row of a held frame, and it writes nothing. -/
theorem heldFrameDropsEveryByte : Obligations.HeldFrameDropsEveryByte := by
  intro s p q b ⟨hq, hs⟩
  have hdone : decodeByte q.ctx p b = .doneDrop p b := decodeByte_commandReceived p b (c := q.ctx) hs
  have hdrop : ∀ t : State, t.ports[p]? = some q → exec (.doneDrop p b) t = .next (t.report (.event p .dropped)) := by
    intro t ht
    rw [← hdone, (RxRow.doneDrop hs).exec_decodeByte ht, putPort_self ht]
  refine ⟨decode_byte hq hdone, hdrop s hq, fun rest hpend => ?_⟩
  rw [step_byte hq hpend, hdone]
  exact hdrop { s with pending := rest } hq

/-! ### Byte steps of two ports (R77) -/

/-- Everything a completed step on a byte does: a row of the transition table applies to its port. -/
theorem step_byte_row {s t : State} {p : PortId} {b : Byte} {rest : List Input} (hpend : s.pending = .byte p b :: rest)
    (h : step s = .next t) :
    ∃ q q' e, s.ports[p]? = some q ∧ RxRow q b q' e ∧
      t = { s with ports := s.ports.set p q', pending := rest, out := .event p e } := by
  cases hq : s.ports[p]? with
  | none =>
    have hreject : decode s.env (.byte p b) = .error .noSuchPort := by simp [decode, hq]
    rw [step_of_reject hpend (by simp) (by simp) hreject] at h
    cases h
  | some q =>
    rw [step_byte hq hpend] at h
    obtain ⟨q', e, hrow⟩ | ⟨hs, hwr, hcap, -⟩ := rxStep_cases q b
    · cases (hrow.exec_decodeByte (s := { s with pending := rest }) hq).symm.trans h
      exact ⟨q, q', e, rfl, hrow, rfl⟩
    · cases (exec_decodeByte_fault (s := { s with pending := rest }) hq hs hwr hcap b).symm.trans h

/-- The step a row of the transition table gives. -/
theorem RxRow.step_eq {s : State} {p : PortId} {q q' : Port} {b : Byte} {e : Event} {rest : List Input}
    (h : RxRow q b q' e) (hq : s.ports[p]? = some q) (hpend : s.pending = .byte p b :: rest) :
    step s = .next { s with ports := s.ports.set p q', pending := rest, out := .event p e } := by
  rw [step_byte hq hpend]
  exact h.exec_decodeByte (s := { s with pending := rest }) hq

theorem steps_succ_next {s t : State} {n : Nat} (h : steps (n + 1) s = .next t) :
    ∃ u, step s = .next u ∧ steps n u = .next t := by
  simp only [steps] at h
  split at h
  · exact ⟨_, ‹_›, h⟩
  · rename_i hne
    exact absurd h (hne t)

theorem steps_succ {s u : State} (n : Nat) (h : step s = .next u) : steps (n + 1) s = steps n u := by
  simp only [steps, h]

theorem steps_two {s u t : State} (hfirst : step s = .next u) (hsecond : step u = .next t) : steps 2 s = .next t :=
  (steps_succ 1 hfirst).trans (steps_succ 0 hsecond)

/-- Settles O18: each byte finds its port as it was, and writes of different ports commute. -/
theorem bytesOfTwoPortsCommute : Obligations.BytesOfTwoPortsCommute := by
  intro s t p p' b b' hne h
  obtain ⟨u, hfirst, h⟩ := steps_succ_next h
  obtain ⟨t, hsecond, h⟩ := steps_succ_next h
  cases h
  obtain ⟨q, r, e, hq, hrow, rfl⟩ := step_byte_row rfl hfirst
  obtain ⟨q', r', e', hq', hrow', rfl⟩ := step_byte_row rfl hsecond
  simp only [List.getElem?_set_ne hne] at hq'
  have hother : (s.ports.set p' r')[p]? = some q := by rwa [List.getElem?_set_ne hne.symm]
  refine ⟨{ s with ports := (s.ports.set p' r').set p r, pending := [], out := .event p e }, ?_, ?_⟩
  · exact steps_two (hrow'.step_eq hq' rfl) (hrow.step_eq hother rfl)
  · rw [List.set_comm _ _ hne]

end Sys2Proof.Machine

namespace Sys2Proof.Machine

/-! ### The payload stored so far (R43, R44) -/

/-- The bytes read depend only on the cells read. -/
theorem cellsUpTo_congr {m m' : List Host.Cell} {n : Nat} (h : ∀ j, j < n → Memory.read m' j = Memory.read m j) :
    cellsUpTo m' n = cellsUpTo m n := by
  induction n with
  | zero => rfl
  | succ n ih =>
    have hbelow : cellsUpTo m' n = cellsUpTo m n := ih fun j hj => h j (by omega)
    have hlast : Memory.read m' n = Memory.read m n := h n (by omega)
    simp only [cellsUpTo, hbelow, hlast]

/-- A byte written behind the cells read is one more cell read. -/
theorem cellsUpTo_write_succ {m : List Host.Cell} {n : Nat} {bs : List Byte} (h : cellsUpTo m n = some bs) (b : Byte) :
    cellsUpTo (Memory.write m n b) (n + 1) = some (bs ++ [b]) := by
  have hbelow : cellsUpTo (Memory.write m n b) n = some bs :=
    (cellsUpTo_congr fun j hj => Memory.read_write_of_ne m b (by omega)).trans h
  simp only [cellsUpTo, hbelow, Memory.read_write_self]

theorem cellsUpTo_eq_some {m : List Host.Cell} {n : Nat} {bs : List Byte} (h : cellsUpTo m n = some bs) :
    bs.length = n ∧ ∀ j, j < n → Memory.read m j = bs[j]? := by
  induction n generalizing bs with
  | zero => cases h; simp
  | succ n ih =>
    simp only [cellsUpTo] at h
    split at h
    · rename_i cs b hcs hb
      cases h
      obtain ⟨rfl, hcells⟩ := ih hcs
      refine ⟨by simp, fun j hj => ?_⟩
      by_cases hlast : j = cs.length
      · rw [hlast, hb, List.getElem?_concat_length]
      · have hj' : j < cs.length := by omega
        rw [hcells j hj', List.getElem?_append_left hj']
    · cases h

/-! ### The invariant of a port (10_state, section 6) -/

/-- Before the direction is in, a port's invariant is the canonical buffer alone. -/
theorem Port.inv_of_unaddressed {q : Port} (hs : q.state ∈ [.idle, .frameStart, .headerM])
    (hwf : Memory.wf q.buf = true) : q.Inv := by
  simp only [List.mem_cons, List.not_mem_nil, or_false] at hs
  obtain hs | hs | hs := hs <;> simp [Port.Inv, hs, hwf]

/-- Before the length is in, it is that and the direction. -/
theorem Port.inv_of_unsized {q : Port} (hs : q.state ∈ [.headerArrow, .headerDeviceId]) (hwf : Memory.wf q.buf = true)
    (hdir : q.dir = Config.dirAction ∨ q.dir = Config.dirQuery) : q.Inv := by
  simp only [List.mem_cons, List.not_mem_nil, or_false] at hs
  obtain hs | hs := hs <;> simp [Port.Inv, hs, hwf, hdir]

theorem Port.cksumOk_storePayload {q : Port} (hcap : q.wr.toNat < Config.bufCap) (hck : q.CksumOk) (b : Byte) :
    (q.storePayload b).CksumOk := by
  obtain ⟨bs, hbs, hsum⟩ := Option.map_eq_some_iff.mp hck
  have hstored : cellsUpTo (q.storePayload b).buf (q.storePayload b).wr.toNat = some (bs ++ [b]) := by
    rw [Port.storePayload_wr hcap]
    exact cellsUpTo_write_succ hbs b
  have hnew : checksum q.len q.cmd (bs ++ [b]) = q.cksum ^^^ b := by rw [checksum_concat, hsum]
  exact (congrArg _ hstored).trans (congrArg some hnew)

/-- Every row of the transition table keeps the invariant of its port. -/
theorem RxRow.inv {q q' : Port} {b : Byte} {e : Event} (h : RxRow q b q' e) (hinv : q.Inv) : q'.Inv := by
  obtain ⟨hwf, hdir, hbounds, hsize, hrd, hwr, hck⟩ := id hinv
  cases h with
  | idleSync | startM => exact Port.inv_of_unaddressed (by simp) hwf
  | startResync | mResync | idLenReject | cmdTrailerBad => exact Port.inv_of_unaddressed (by simp) hwf
  | idleReject | doneDrop => exact hinv
  | mDir _ hb => exact Port.inv_of_unsized (by simp) hwf hb
  | arrowId hs => exact Port.inv_of_unsized (by simp) hwf (hdir (by simp [hs]))
  | idLenOk hs hb =>
    have hd := hdir (by simp [hs])
    exact ⟨hwf, fun _ => hd, fun _ => ⟨hb, by simp, by simp⟩, fun _ => ⟨rfl, rfl⟩, fun _ => rfl, by simp, by simp⟩
  | sizeCmd hs =>
    have hd := hdir (by simp [hs])
    have hb := hbounds (by simp [hs])
    obtain ⟨hwr0, hcksum⟩ := hsize hs
    have hempty : cellsUpTo q.buf q.wr.toNat = some [] := by rw [hwr0]; rfl
    have hnew : checksum q.len b [] = q.cksum ^^^ b := by simp [checksum, xorList, hcksum]
    exact ⟨hwf, fun _ => hd, fun _ => hb, by simp, fun _ => hrd (by simp [hs]), by simp,
      fun _ => (congrArg _ hempty).trans (congrArg some hnew)⟩
  | cmdPayload hs hlt hcap =>
    have hd := hdir (by simp [hs])
    obtain ⟨hlen, -, hrdle⟩ := hbounds (by simp [hs])
    have hs' : (q.storePayload b).state = .headerCmd := hs
    have hle : (q.storePayload b).wr.toNat ≤ q.len.toNat := by rw [Port.storePayload_wr hcap]; exact hlt
    exact ⟨Memory.wf_write b hwf hcap, fun _ => hd, fun _ => ⟨hlen, hle, hrdle⟩, by simp [hs'],
      fun _ => hrd (by simp [hs]), by simp [hs'], fun _ => Port.cksumOk_storePayload hcap (hck (by simp [hs])) b⟩
  | cmdTrailerOk hs hge =>
    have hd := hdir (by simp [hs])
    obtain ⟨hlen, hle, hrdle⟩ := hbounds (by simp [hs])
    exact ⟨hwf, fun _ => hd, fun _ => ⟨hlen, hle, hrdle⟩, by simp, by simp,
      fun _ => Nat.le_antisymm hle (Nat.le_of_not_lt hge), fun _ => hck (by simp [hs])⟩

/-- A held frame carries its payload (R32, R44). -/
theorem Port.Inv.carries {q : Port} (h : q.Inv) (hs : q.state = .commandReceived) :
    ∃ pl, q.Carries pl ∧ pl.length ≤ Config.bufCap := by
  obtain ⟨-, -, hbounds, -, -, hwr, hck⟩ := h
  obtain ⟨hlen, -, -⟩ := hbounds (by simp [hs])
  obtain ⟨pl, hpl, -⟩ := Option.map_eq_some_iff.mp (hck (by simp [hs]))
  rw [hwr hs] at hpl
  obtain ⟨hlength, hcells⟩ := cellsUpTo_eq_some hpl
  refine ⟨pl, ⟨hlength, by omega, fun j hj => ?_⟩, by omega⟩
  rw [Nat.zero_add]
  exact hcells j (hlength ▸ hj)

/-! ### Reads through the cursor (R63, R164 to R167) -/

/-- A read finds its bytes wherever they are part of the payload. -/
theorem bufReads_of_carries {q : Port} {pl : List Byte} (h : q.Carries pl) {i n : Nat} (hin : i + n ≤ pl.length) :
    bufReads q i n = .ok ((pl.drop i).take n) := by
  obtain ⟨-, hcap, hcells⟩ := h
  have hlen : ((pl.drop i).take n).length = n := by simp; omega
  have hslice : q.Cells i ((pl.drop i).take n) := by
    refine ⟨by omega, fun j hj => ?_⟩
    have hcell := hcells (i + j) (by omega)
    rw [Nat.zero_add] at hcell
    rw [hcell, List.getElem?_take_of_lt (by omega), List.getElem?_drop]
  have hread := bufReads_ok hslice
  rwa [hlen] at hread

/-- `q'` is `q` with its read cursor moved, and no further than the length. -/
def Port.CursorMoved (q q' : Port) : Prop :=
  q' = { q with rd := q'.rd } ∧ (q.rd.toNat ≤ q.len.toNat → q'.rd.toNat ≤ q'.len.toNat)

theorem Port.CursorMoved.refl (q : Port) : q.CursorMoved q := ⟨rfl, id⟩

theorem Port.CursorMoved.trans {q q' q'' : Port} (h : q.CursorMoved q') (h' : q'.CursorMoved q'') :
    q.CursorMoved q'' := by
  obtain ⟨hframe, hbound⟩ := h
  obtain ⟨hframe', hbound'⟩ := h'
  exact ⟨by rw [hframe', hframe], fun hq => hbound' (hbound hq)⟩

theorem Port.CursorMoved.state_eq {q q' : Port} (h : q.CursorMoved q') : q'.state = q.state := by rw [h.1]

theorem Port.CursorMoved.inv {q q' : Port} (h : q.CursorMoved q') (hs : q.state = .commandReceived) (hinv : q.Inv) :
    q'.Inv := by
  obtain ⟨hwf, hdir, hbounds, hsize, hrd, hwr, hck⟩ := hinv
  obtain ⟨hlen, hwrle, hrdle⟩ := hbounds (by simp [hs])
  have hmoved := h.2 hrdle
  rw [h.1] at hmoved ⊢
  exact ⟨hwf, hdir, fun _ => ⟨hlen, hwrle, hmoved⟩, hsize, by simp [hs], hwr, hck⟩

/-- What a read leaves of its port: the read cursor may have moved. A fault leaves none. -/
def ReadResult.Moves (q : Port) : ReadResult → Prop
  | .got _ q' => q.CursorMoved q'
  | .refused _ q' => q.CursorMoved q'
  | .fault _ => True

theorem hostRead_moves (q : Port) (n : Nat) : (hostRead q n).Moves q := by
  obtain ⟨bs, h, -, hle, -⟩ | ⟨r, h⟩ | ⟨f, h, -⟩ := hostRead_cases q n <;> rw [h]
  · refine ⟨rfl, fun _ => ?_⟩
    calc (q.rd + BitVec.ofNat 7 n).toNat
      _ = (q.rd.toNat + n) % 2 ^ 7 := by simp [BitVec.toNat_add]
      _ ≤ q.rd.toNat + n := Nat.mod_le ..
      _ ≤ q.len.toNat := hle
  · exact .refl q
  · trivial

theorem hostReads_moves (q : Port) (ns : List Nat) : (hostReads q ns).Moves q := by
  induction ns generalizing q with
  | nil => exact .refl q
  | cons n ns ih =>
    have hfirst := hostRead_moves q n
    simp only [hostReads]
    split
    · rename_i bs q' hgot
      rw [hgot] at hfirst
      have hrest := ih q'
      split
      · rename_i hgot'
        rw [hgot'] at hrest
        exact hfirst.trans hrest
      · cases hr : hostReads q' ns <;> simp only [hr] at hrest
        exacts [hfirst.trans hrest, hfirst.trans hrest, trivial]
    · exact hfirst

/-- A read of a frame that meets its invariant does not fault (R41). -/
theorem hostRead_ne_fault {q : Port} (hinv : q.Inv) (n : Nat) (f : Fault) : hostRead q n ≠ .fault f := by
  intro hfault
  obtain ⟨_, h, -⟩ | ⟨_, h⟩ | ⟨f, -, hs, hle, herr⟩ := hostRead_cases q n
  · cases h.symm.trans hfault
  · cases h.symm.trans hfault
  · obtain ⟨pl, hpl, -⟩ := hinv.carries hs
    cases (bufReads_of_carries hpl (hpl.1 ▸ hle)).symm.trans herr

theorem hostReads_ne_fault {q : Port} (hs : q.state = .commandReceived) (hinv : q.Inv) (ns : List Nat) (f : Fault) :
    hostReads q ns ≠ .fault f := by
  induction ns generalizing q with
  | nil => exact nofun
  | cons n ns ih =>
    have hmoves := hostRead_moves q n
    cases hr : hostRead q n with
    | got bs q' =>
      rw [hr] at hmoves
      have hrest := ih (hmoves.state_eq.trans hs) (Port.CursorMoved.inv hmoves hs hinv)
      simp only [hostReads, hr]
      split
      · exact nofun
      · exact hrest
    | refused => simp [hostReads, hr]
    | fault f' => exact absurd hr (hostRead_ne_fault hinv n f')

end Sys2Proof.Machine

namespace Sys2Proof.Machine

/-! ### What an operation of the host or the dispatcher leaves of the device (R37, R298)

All of them but RESET and a PORT_RELEASE that is not refused keep the device in the sense of `HostKeeps`. -/

/-- From `s` to `t` at most a held frame's read cursor has moved, bytes have been appended to one stream, the
collaborator's data have changed within its contract, and a refusal has been reported and marked; the local id is
written by the two operations that set it. -/
structure HostKeeps (i : Instr) (s t : State) : Prop where
  ports : t.ports = s.ports ∨ ∃ p q q', s.Holds p q ∧ q.CursorMoved q' ∧ t.ports = s.ports.set p q'
  tx : t.tx = s.tx ∨ ∃ ch bs, t.tx = s.tx.modify ch (· ++ bs)
  localId : t.localId = s.localId ∨ (∃ v, i = .setLocalId v) ∨ ∃ p ch, i = .actionSetDeviceId p ch
  params : t.params = s.params
  mark : t.refusalSeen = s.refusalSeen ∨ (t.refusalSeen = true ∧ ∃ r, t.out = .refused r)
  collab : CollabInv s.collab → CollabInv t.collab

section
variable (i : Instr) (s : State)

theorem hostKeeps_refuse (r : Reason) : HostKeeps i s (s.refuse r) :=
  ⟨.inl rfl, .inl rfl, .inl rfl, rfl, .inr ⟨rfl, r, rfl⟩, id⟩

theorem hostKeeps_report (o : Output) : HostKeeps i s (s.report o) :=
  ⟨.inl rfl, .inl rfl, .inl rfl, rfl, .inl rfl, id⟩

theorem hostKeeps_emit (ch : ChanId) (bs : List Byte) : HostKeeps i s ((s.emit ch bs).report .done) :=
  ⟨.inl rfl, .inr ⟨ch, bs, rfl⟩, .inl rfl, rfl, .inl rfl, id⟩

theorem hostKeeps_reply (ch : ChanId) (c : Byte) (pl : List Byte) : HostKeeps i s (s.reply ch c pl) :=
  hostKeeps_emit i s ch _

theorem hostKeeps_replyError (ch : ChanId) (c : Byte) : HostKeeps i s (s.replyError ch c) :=
  hostKeeps_emit i s ch _

end

/-- An operation on a frame keeps the device where what it does to a held frame does. -/
theorem hostKeeps_onFrame {i : Instr} {s t : State} {p : PortId} {k : Port → Res}
    (hk : ∀ q, s.Holds p q → k q = .next t → HostKeeps i s t) (h : onFrame s p k = .next t) : HostKeeps i s t := by
  obtain ⟨q, hq, ⟨hs, h⟩ | ⟨-, rfl⟩⟩ := onFrame_next h
  · exact hk q ⟨hq, hs⟩ h
  · exact hostKeeps_refuse i s _

theorem hostKeeps_readOp {i : Instr} {s t : State} {p : PortId} {n : Nat} {value : List Byte → Output}
    (h : readOp s p n value = .next t) : HostKeeps i s t := by
  obtain ⟨q, hq, h⟩ := onPort_next h
  have hmoves := hostRead_moves q n
  obtain ⟨bs, hr, hs, -⟩ | ⟨r, hr⟩ | ⟨f, hr, -⟩ := hostRead_cases q n <;> rw [hr] at h hmoves <;> cases h
  · exact ⟨.inr ⟨p, q, _, ⟨hq, hs⟩, hmoves, rfl⟩, .inl rfl, .inl rfl, rfl, .inl rfl, id⟩
  · exact hostKeeps_refuse i s r

theorem hostKeeps_relayPassArm {i : Instr} {s t : State} {ch : ChanId} {q : Port}
    (h : relayPassArm s ch q = .next t) : HostKeeps i s t := by
  unfold relayPassArm at h
  split at h
  · cases h
    exact hostKeeps_emit i s ch _
  · cases h

theorem hostKeeps_relayRewriteArm {i : Instr} {s t : State} {ch : ChanId} {q : Port}
    (h : relayRewriteArm s ch q = .next t) : HostKeeps i s t := by
  cases h
  exact hostKeeps_emit i s ch _

/-! ### The effects of the actions (44, section 4) -/

/-- What the effect of the action `i` leaves of the device. -/
structure EffectKeeps (i : Instr) (effect : List Byte → State → State) : Prop where
  ports : ∀ bs s, (effect bs s).ports = s.ports
  tx : ∀ bs s, (effect bs s).tx = s.tx
  localId : (∀ bs s, (effect bs s).localId = s.localId) ∨ ∃ p ch, i = .actionSetDeviceId p ch
  params : ∀ bs s, (effect bs s).params = s.params
  mark : ∀ bs s, (effect bs s).refusalSeen = s.refusalSeen
  collab : ∀ bs s, CollabInv s.collab → CollabInv (effect bs s).collab

theorem clampLapMax_toNat (v : Byte) : (clampLapMax v).toNat = min v.toNat 50 := by
  have hlt : min v.toNat 50 < 2 ^ 8 := by omega
  simp only [clampLapMax, Config.maxLapsLimit, BitVec.toNat_ofNat, Nat.mod_eq_of_lt hlt]

/-- The bounds of the contract hold of what they are imposed on (R267, R248). -/
theorem collabInv_boundCollab (c : Collab) : CollabInv (boundCollab c) := by
  refine ⟨List.length_take_le .., ?_⟩
  show (clampLapMax c.settings.lapMax).toNat ≤ 50
  rw [clampLapMax_toNat]
  exact Nat.min_le_right ..

theorem collabInv_collabAfter {c : Collab} (h : CollabInv c) (n : Nat) (t : Trigger) :
    CollabInv (collabAfter c n t) := by
  cases t with
  | persist | retune | recompute => exact h
  | reset | calibrate | start | activate | deactivate => exact collabInv_boundCollab _

section
variable (i : Instr)

theorem effectKeeps_raise (t : Trigger) : EffectKeeps i fun _ s => s.raise t :=
  ⟨fun _ _ => rfl, fun _ _ => rfl, .inl fun _ _ => rfl, fun _ _ => rfl, fun _ _ => rfl,
    fun _ s h => collabInv_collabAfter h s.fresh t⟩

/-- A setter keeps the device where it keeps the lap maximum within its bound. -/
theorem effectKeeps_set (f : List Byte → Settings → Settings)
    (hf : ∀ bs c, c.lapMax.toNat ≤ Config.maxLapsLimit → (f bs c).lapMax.toNat ≤ Config.maxLapsLimit) :
    EffectKeeps i fun bs s => s.set (f bs) :=
  ⟨fun _ _ => rfl, fun _ _ => rfl, .inl fun _ _ => rfl, fun _ _ => rfl, fun _ _ => rfl,
    fun bs _ ⟨hlaps, hmax⟩ => ⟨hlaps, hf bs _ hmax⟩⟩

theorem EffectKeeps.raise {i : Instr} {effect : List Byte → State → State} (h : EffectKeeps i effect) (t : Trigger) :
    EffectKeeps i fun bs s => (effect bs s).raise t :=
  ⟨h.ports, h.tx, h.localId, h.params, h.mark, fun bs s hc => collabInv_collabAfter (h.collab bs s hc) _ t⟩

end

theorem hostKeeps_shortAction {i : Instr} {s : State} {p : PortId} {q q' : Port} (hheld : s.Holds p q)
    (hmoves : q.CursorMoved q') (ch : ChanId) (r : Reason) (c : Byte) :
    HostKeeps i s (shortAction (s.putPort p q') ch r c) := by
  unfold shortAction
  split
  · exact ⟨.inr ⟨p, q, q', hheld, hmoves, rfl⟩, .inr ⟨ch, _, rfl⟩, .inl rfl, rfl, .inr ⟨rfl, r, rfl⟩, id⟩
  · exact ⟨.inr ⟨p, q, q', hheld, hmoves, rfl⟩, .inl rfl, .inl rfl, rfl, .inr ⟨rfl, r, rfl⟩, id⟩

theorem hostKeeps_effect {i : Instr} {s : State} {p : PortId} {q q' : Port} {effect : List Byte → State → State}
    (heffect : EffectKeeps i effect) (hheld : s.Holds p q) (hmoves : q.CursorMoved q') (bs : List Byte) (ch : ChanId)
    (c : Byte) : HostKeeps i s ((effect bs (s.putPort p q')).reply ch c []) where
  ports := .inr ⟨p, q, q', hheld, hmoves, heffect.ports bs _⟩
  tx := .inr ⟨ch, _, congrArg (List.modify · ch _) (heffect.tx bs _)⟩
  localId := heffect.localId.imp (fun h => h bs _) .inr
  params := heffect.params bs _
  mark := .inl (heffect.mark bs _)
  collab := heffect.collab bs (s.putPort p q')

/-! ### The command rows (44_dispatch_contract, section 2) -/

/-- What a command row is: it runs on a held frame whose code it selects, completes there, and keeps the device. -/
structure CommandRow (i : Instr) (p : PortId) (ch : ChanId) (selects : Codes → Byte → Bool) : Prop where
  wf_eq : ∀ nPorts nChans, i.wf nPorts nChans = (decide (p < nPorts) && decide (ch < nChans))
  fits_eq : ∀ e : DecodeEnv, i.fits e = e.portIs p fun c => selects e.codes c.cmd
  exec_eq : ∀ s : State, ∃ k, exec i s = onCommand s p ch selects k ∧ ∀ q, s.Holds p q →
    (q.Inv → ∃ t, k q = .next t) ∧ ∀ t, k q = .next t → HostKeeps i s t

section
variable {i : Instr} {p : PortId} {ch : ChanId} (code : Codes → Byte)
  (hwf : ∀ nPorts nChans, i.wf nPorts nChans = (decide (p < nPorts) && decide (ch < nChans)))
  (hfits : ∀ e : DecodeEnv, i.fits e = e.portIs p fun c => c.cmd == code e.codes)
include hwf hfits

theorem commandRow_query {data : State → List Byte} (hexec : ∀ s, exec i s = query s p ch code (data s)) :
    CommandRow i p ch fun k c => c == code k := by
  refine ⟨hwf, hfits, fun s => ⟨_, hexec s, fun q _ => ⟨fun _ => ⟨_, rfl⟩, fun t h => ?_⟩⟩⟩
  cases h
  exact hostKeeps_reply i s ch _ _

theorem commandRow_action (widths : List Nat) {effect : List Byte → State → State} (heffect : EffectKeeps i effect)
    (hexec : ∀ s, exec i s = action s p ch code widths effect) : CommandRow i p ch fun k c => c == code k := by
  refine ⟨hwf, hfits, fun s => ⟨_, hexec s, fun q hheld => ⟨fun hinv => ?_, fun t h => ?_⟩⟩⟩
  · cases hr : hostReads q widths with
    | got => exact ⟨_, rfl⟩
    | refused => exact ⟨_, rfl⟩
    | fault f => exact absurd hr (hostReads_ne_fault hheld.2 hinv widths f)
  · have hmoves := hostReads_moves q widths
    cases hr : hostReads q widths with
    | got bs q' =>
      simp only [hr] at h hmoves
      cases h
      exact hostKeeps_effect heffect hheld hmoves bs ch q.cmd
    | refused r q' =>
      simp only [hr] at h hmoves
      cases h
      exact hostKeeps_shortAction hheld hmoves ch r q.cmd
    | fault => simp [hr] at h

end

/-- QUERY_LAST_LAP is one of two queries, or an error reply, as the laps and LAST_LAP_EMPTY have it (R250). -/
theorem commandRow_queryLastLap (p : PortId) (ch : ChanId) :
    CommandRow (.queryLastLap p ch) p ch fun k c => c == k.lastLap := by
  refine ⟨fun _ _ => rfl, fun _ => rfl, fun s => ?_⟩
  simp only [exec, execQueryLastLap]
  split
  · refine ⟨_, rfl, fun q _ => ⟨fun _ => ⟨_, rfl⟩, fun t h => ?_⟩⟩
    cases h
    exact hostKeeps_reply _ s ch _ _
  · split
    · refine ⟨_, rfl, fun q _ => ⟨fun _ => ⟨_, rfl⟩, fun t h => ?_⟩⟩
      cases h
      exact hostKeeps_reply _ s ch _ _
    · refine ⟨_, rfl, fun q _ => ⟨fun _ => ⟨_, rfl⟩, fun t h => ?_⟩⟩
      cases h
      exact hostKeeps_replyError _ s ch _

theorem commandRow_querySelectedLap (p : PortId) (ch : ChanId) :
    CommandRow (.querySelectedLap p ch) p ch fun k c => c == k.selectedLap := by
  refine ⟨fun _ _ => rfl, fun _ => rfl, fun s => ⟨_, rfl, fun q _ => ⟨fun _ => ⟨_, rfl⟩, fun t h => ?_⟩⟩⟩
  cases h
  exact ⟨.inl rfl, .inr ⟨ch, _, rfl⟩, .inl rfl, rfl, .inl rfl, id⟩

theorem commandRow_unknownCommand (p : PortId) (ch : ChanId) :
    CommandRow (.unknownCommand p ch) p ch fun k c => !(k.queries ++ k.actions).contains c := by
  refine ⟨fun _ _ => rfl, fun _ => rfl, fun s => ⟨_, rfl, fun q _ => ⟨fun _ => ⟨_, rfl⟩, fun t h => ?_⟩⟩⟩
  cases h
  exact hostKeeps_replyError _ s ch _

theorem effectKeeps_setDeviceId (p : PortId) (ch : ChanId) :
    EffectKeeps (.actionSetDeviceId p ch) fun bs t =>
      { t with localId := newLocalId t.params.setIdZero t.localId (bs.getD 0 0) } :=
  ⟨fun _ _ => rfl, fun _ _ => rfl, .inr ⟨p, ch, rfl⟩, fun _ _ => rfl, fun _ _ => rfl, fun _ _ => id⟩

theorem effectKeeps_selectLap (i : Instr) :
    EffectKeeps i fun bs t =>
      { t with selection := clampSelection (bs.getD 0 0) t.collab.measured.laps.length } :=
  ⟨fun _ _ => rfl, fun _ _ => rfl, .inl fun _ _ => rfl, fun _ _ => rfl, fun _ _ => rfl, fun _ _ => id⟩

/-- Every operation asked for by a dispatch is a command row. -/
theorem exec_commandRow {i : Instr} {p : PortId} {ch : ChanId} (hi : encode i = .dispatch p ch) :
    ∃ selects, CommandRow i p ch selects := by
  cases i <;> cases hi
  case queryVersion => exact ⟨_, commandRow_query Codes.version (fun _ _ => rfl) (fun _ => rfl) fun _ => rfl⟩
  case queryDeviceId => exact ⟨_, commandRow_query Codes.deviceId (fun _ _ => rfl) (fun _ => rfl) fun _ => rfl⟩
  case queryStatus => exact ⟨_, commandRow_query Codes.status (fun _ _ => rfl) (fun _ => rfl) fun _ => rfl⟩
  case queryChannel => exact ⟨_, commandRow_query Codes.channel (fun _ _ => rfl) (fun _ => rfl) fun _ => rfl⟩
  case queryRssi => exact ⟨_, commandRow_query Codes.rssi (fun _ _ => rfl) (fun _ => rfl) fun _ => rfl⟩
  case queryRssiThreshold => exact ⟨_, commandRow_query Codes.rssiThreshold (fun _ _ => rfl) (fun _ => rfl) fun _ => rfl⟩
  case queryRssiFilter => exact ⟨_, commandRow_query Codes.rssiFilter (fun _ _ => rfl) (fun _ => rfl) fun _ => rfl⟩
  case queryLapMax => exact ⟨_, commandRow_query Codes.lapMax (fun _ _ => rfl) (fun _ => rfl) fun _ => rfl⟩
  case queryLapMinTime => exact ⟨_, commandRow_query Codes.lapMinTime (fun _ _ => rfl) (fun _ => rfl) fun _ => rfl⟩
  case queryDebug => exact ⟨_, commandRow_query Codes.debug (fun _ _ => rfl) (fun _ => rfl) fun _ => rfl⟩
  case queryLastLap => exact ⟨_, commandRow_queryLastLap p ch⟩
  case querySelectedLap => exact ⟨_, commandRow_querySelectedLap p ch⟩
  case actionReset =>
    exact ⟨_, commandRow_action Codes.reset (fun _ _ => rfl) (fun _ => rfl) []
      (effectKeeps_raise _ .reset) fun _ => rfl⟩
  case actionCalibrate =>
    exact ⟨_, commandRow_action Codes.calibrate (fun _ _ => rfl) (fun _ => rfl) []
      (effectKeeps_raise _ .calibrate) fun _ => rfl⟩
  case actionStart =>
    exact ⟨_, commandRow_action Codes.start (fun _ _ => rfl) (fun _ => rfl) []
      (effectKeeps_raise _ .start) fun _ => rfl⟩
  case actionActivate =>
    exact ⟨_, commandRow_action Codes.activate (fun _ _ => rfl) (fun _ => rfl) []
      (effectKeeps_raise _ .activate) fun _ => rfl⟩
  case actionDeactivate =>
    exact ⟨_, commandRow_action Codes.deactivate (fun _ _ => rfl) (fun _ => rfl) []
      (effectKeeps_raise _ .deactivate) fun _ => rfl⟩
  case actionPersist =>
    exact ⟨_, commandRow_action Codes.persist (fun _ _ => rfl) (fun _ => rfl) []
      (effectKeeps_raise _ .persist) fun _ => rfl⟩
  case actionSetDeviceId =>
    exact ⟨_, commandRow_action Codes.setDeviceId (fun _ _ => rfl) (fun _ => rfl) [1]
      (effectKeeps_setDeviceId p ch) fun _ => rfl⟩
  case actionSelectLap =>
    exact ⟨_, commandRow_action Codes.selectLap (fun _ _ => rfl) (fun _ => rfl) [1]
      (effectKeeps_selectLap _) fun _ => rfl⟩
  case actionSetChannel =>
    exact ⟨_, commandRow_action Codes.setChannel (fun _ _ => rfl) (fun _ => rfl) [2]
      ((effectKeeps_set _ (fun bs c => { c with channel := halfOf bs }) fun _ _ => id).raise .retune) fun _ => rfl⟩
  case actionSetRssiThreshold =>
    exact ⟨_, commandRow_action Codes.setRssiThreshold (fun _ _ => rfl) (fun _ => rfl) [2]
      (effectKeeps_set _ (fun bs c => { c with threshold := halfOf bs }) fun _ _ => id) fun _ => rfl⟩
  case actionSetRssiFilter =>
    exact ⟨_, commandRow_action Codes.setRssiFilter (fun _ _ => rfl) (fun _ => rfl) [2, 2]
      ((effectKeeps_set _ (fun bs c => { c with filterQ := halfOf bs, filterR := halfOf (bs.drop 2) })
        fun _ _ => id).raise .recompute) fun _ => rfl⟩
  case actionSetLapMinTime =>
    exact ⟨_, commandRow_action Codes.setLapMinTime (fun _ _ => rfl) (fun _ => rfl) [2]
      (effectKeeps_set _ (fun bs c => { c with minLapMs := (halfOf bs).setWidth 32 * 1000 }) fun _ _ => id)
      fun _ => rfl⟩
  case actionSetLapMax =>
    exact ⟨_, commandRow_action Codes.setLapMax (fun _ _ => rfl) (fun _ => rfl) [1]
      (effectKeeps_set _ (fun bs c => { c with lapMax := clampLapMax (bs.getD 0 0) })
        fun _ _ _ => (clampLapMax_toNat _).trans_le (Nat.min_le_right ..)) fun _ => rfl⟩
  case actionSetDebug =>
    exact ⟨_, commandRow_action Codes.setDebug (fun _ _ => rfl) (fun _ => rfl) [1]
      (effectKeeps_set _ (fun bs c => { c with debug := bs.getD 0 0 }) fun _ _ => id) fun _ => rfl⟩
  case unknownCommand => exact ⟨_, commandRow_unknownCommand p ch⟩

end Sys2Proof.Machine

namespace Sys2Proof.Machine

/-! ### A byte-step row, wherever it is applied (log 13) -/

theorem onPort_missing {s : State} {p : PortId} (h : s.ports[p]? = none) (k : Port → Res) :
    onPort s p k = .refused .noSuchPort := by simp [onPort, h]

theorem onFrame_missing {s : State} {p : PortId} (h : s.ports[p]? = none) (k : Port → Res) :
    onFrame s p k = .refused .noSuchPort := onPort_missing h _

theorem onChan_missing {s : State} {ch : ChanId} (h : ¬ ch < s.tx.length) (k : Res) :
    onChan s ch k = .refused .noSuchChannel := by simp [onChan, h]

/-- A byte-step rule on a port the device has: what its guard says of the port, or it is refused by name. -/
theorem byteRule_selected {s : State} {p : PortId} {q : Port} (hq : s.ports[p]? = some q) {e : Event}
    {g : Port → Bool} {u : Port → Port} {P : Prop} (hP : g q = true → P) :
    P ∨ byteRule s p e g u = .refused .ruleNotSelected := by
  by_cases hg : g q = true
  · exact .inl (hP hg)
  · exact .inr (by simp [byteRule, onPort_some hq, hg])

/-- A byte-step row is the one its port selects, or it is refused by name. -/
theorem exec_byteRow_cases {s : State} {i : Instr} {p : PortId} {b : Byte} {q : Port} (hi : encode i = .byte p b)
    (hq : s.ports[p]? = some q) : i = decodeByte q.ctx p b ∨ exec i s = .refused .ruleNotSelected := by
  cases i <;> cases hi
  case cmdPayload =>
    by_cases hsel : q.state = .headerCmd ∧ q.wr.toNat < q.len.toNat
    · exact .inl (decodeByte_payload p b (c := q.ctx) hsel.1 hsel.2).symm
    · have hguard : ¬ (q.state == .headerCmd && decide (q.wr.toNat < q.len.toNat)) = true := by simpa using hsel
      exact .inr ((onPort_some hq _).trans (if_neg hguard))
  case mDirQuery =>
    have hne : Config.dirQuery ≠ Config.dirAction := by decide
    refine byteRule_selected hq fun hg => ?_
    simp_all [decodeByte]
  case idLenOk | idLenReject =>
    refine byteRule_selected hq fun hg => ?_
    simp_all [decodeByte, lenOk]
  case cmdTrailerOk | cmdTrailerBad =>
    refine byteRule_selected hq fun hg => ?_
    simp_all [decodeByte, Port.cksumMatch]
  all_goals
    refine byteRule_selected hq fun hg => ?_
    simp_all [decodeByte]

/-- Everything a byte-step row does where it completes: a row of the transition table applies to its port. -/
theorem exec_byteRow_next {s t : State} {i : Instr} {p : PortId} {b : Byte} (hi : encode i = .byte p b)
    (h : exec i s = .next t) :
    ∃ q q' e, s.ports[p]? = some q ∧ RxRow q b q' e ∧ t = (s.putPort p q').report (.event p e) := by
  obtain ⟨q, hq⟩ : ∃ q, s.ports[p]? = some q := by
    obtain ⟨e, g, u, hrow⟩ | rfl := exec_byteRow hi
    · obtain ⟨q, hq, -⟩ := byteRule_next (hrow s ▸ h)
      exact ⟨q, hq⟩
    · obtain ⟨q, hq, -⟩ := exec_cmdPayload_next h
      exact ⟨q, hq⟩
  obtain rfl | hrefused := exec_byteRow_cases hi hq
  · obtain ⟨q', e, hrow⟩ | ⟨hs, hwr, hcap, -⟩ := rxStep_cases q b
    · cases (hrow.exec_decodeByte hq).symm.trans h
      exact ⟨q, q', e, hq, hrow, rfl⟩
    · cases (exec_decodeByte_fault hq hs hwr hcap b).symm.trans h
  · cases hrefused.symm.trans h

theorem exec_byteRow_missing {s : State} {i : Instr} {p : PortId} {b : Byte} (hi : encode i = .byte p b)
    (hp : s.ports[p]? = none) : exec i s = .refused .noSuchPort := by
  obtain ⟨e, g, u, hrow⟩ | rfl := exec_byteRow hi
  · exact (hrow s).trans (onPort_missing hp _)
  · exact onPort_missing hp _

/-! ### Everything an operation can do -/

/-- Every operation is asked for by a byte, a request or a dispatch. -/
theorem encode_cases (i : Instr) :
    (∃ p b, encode i = .byte p b) ∨ (∃ r, encode i = .request r) ∨ ∃ p ch, encode i = .dispatch p ch := by
  cases i <;> simp [encode]

/-- PORT_RELEASE completes on a held frame and returns its port to `Idle` (R162). -/
def Releases (i : Instr) (s t : State) : Prop :=
  ∃ p q, i = .portRelease p ∧ s.Holds p q ∧ t = (s.putPort p q.release).report .done

theorem exec_request_next {s t : State} {i : Instr} {r : Request} (hi : encode i = .request r)
    (h : exec i s = .next t) :
    HostKeeps i s t ∨ Releases i s t ∨ (i = .reset ∧ t = s.resetBlock.report .done) := by
  cases i <;> cases hi
  case reset =>
    cases h
    exact .inr (.inr ⟨rfl, rfl⟩)
  case portRelease p =>
    obtain ⟨q, hq, ⟨hs, h⟩ | ⟨-, rfl⟩⟩ := onFrame_next h
    · cases h
      exact .inr (.inl ⟨p, q, rfl, ⟨hq, hs⟩, rfl⟩)
    · exact .inl (hostKeeps_refuse _ s _)
  case frameView p =>
    refine .inl (hostKeeps_onFrame (fun q _ h => ?_) h)
    split at h
    · cases h
      exact hostKeeps_report _ s _
    · cases h
  case hostRead8 | hostRead16 | hostRead32 => exact .inl (hostKeeps_readOp h)
  case setLocalId v =>
    cases h
    exact .inl ⟨.inl rfl, .inl rfl, .inr (.inl ⟨v, rfl⟩), rfl, .inl rfl, id⟩
  case getLocalId =>
    cases h
    exact .inl (hostKeeps_report _ s _)
  case txReply ch c pl =>
    obtain ⟨-, h⟩ := onChan_next h
    split at h <;> cases h
    · exact .inl (hostKeeps_reply _ s ch c pl)
    · exact .inl (hostKeeps_refuse _ s _)
  case txError ch c =>
    obtain ⟨-, h⟩ := onChan_next h
    cases h
    exact .inl (hostKeeps_replyError _ s ch c)
  case route p =>
    refine .inl (hostKeeps_onFrame (fun q _ h => ?_) h)
    cases h
    exact hostKeeps_report _ s _
  case relay p ch =>
    obtain ⟨-, h⟩ := onChan_next h
    refine .inl (hostKeeps_onFrame (fun q _ h => ?_) h)
    split at h
    · exact hostKeeps_relayRewriteArm h
    · exact hostKeeps_relayPassArm h
  case relayPass p ch =>
    obtain ⟨-, h⟩ := onChan_next h
    refine .inl (hostKeeps_onFrame (fun q _ h => ?_) h)
    split at h
    · cases h
    · exact hostKeeps_relayPassArm h
  case relayRewrite p ch =>
    obtain ⟨-, h⟩ := onChan_next h
    refine .inl (hostKeeps_onFrame (fun q _ h => ?_) h)
    split at h
    · exact hostKeeps_relayRewriteArm h
    · cases h

theorem exec_dispatch_next {s t : State} {i : Instr} {p : PortId} {ch : ChanId} (hi : encode i = .dispatch p ch)
    (h : exec i s = .next t) : HostKeeps i s t := by
  obtain ⟨selects, hrow⟩ := exec_commandRow hi
  obtain ⟨k, hexec, hk⟩ := hrow.exec_eq s
  obtain ⟨-, q, hq, ⟨hs, -, hnext⟩ | ⟨-, rfl⟩⟩ := onCommand_next (hexec ▸ h)
  · exact (hk q ⟨hq, hs⟩).2 t hnext
  · exact hostKeeps_refuse i s _

/-- Everything an operation that is no byte step can do where it completes. -/
theorem exec_host_next {s t : State} {i : Instr} (hi : ∀ p b, encode i ≠ .byte p b) (h : exec i s = .next t) :
    HostKeeps i s t ∨ Releases i s t ∨ (i = .reset ∧ t = s.resetBlock.report .done) := by
  obtain ⟨p, b, hbyte⟩ | ⟨r, hrequest⟩ | ⟨p, ch, hdispatch⟩ := encode_cases i
  · exact absurd hbyte (hi p b)
  · exact exec_request_next hrequest h
  · exact .inl (exec_dispatch_next hdispatch h)

/-- Everything an operation can do where it completes. -/
theorem exec_next_cases {s t : State} {i : Instr} (h : exec i s = .next t) :
    (∃ p b q q' e, encode i = .byte p b ∧ s.ports[p]? = some q ∧ RxRow q b q' e ∧
        t = (s.putPort p q').report (.event p e)) ∨
      HostKeeps i s t ∨ Releases i s t ∨ (i = .reset ∧ t = s.resetBlock.report .done) := by
  by_cases hbyte : ∃ p b, encode i = .byte p b
  · obtain ⟨p, b, hi⟩ := hbyte
    obtain ⟨q, q', e, hq, hrow, ht⟩ := exec_byteRow_next hi h
    exact .inl ⟨p, b, q, q', e, hi, hq, hrow, ht⟩
  · exact .inr (exec_host_next (fun p b hi => hbyte ⟨p, b, hi⟩) h)

/-! ### What follows for every operation -/

/-- Settles O24: of all an operation can do, only these three write the local id. -/
theorem localIdHasThreeWriters : Obligations.LocalIdHasThreeWriters := by
  intro s t i h hne
  obtain ⟨p, b, q, q', e, -, -, -, rfl⟩ | hkeeps | ⟨p, q, -, -, rfl⟩ | ⟨hreset, -⟩ := exec_next_cases h
  · exact absurd rfl hne
  · obtain hsame | hset | haction := hkeeps.localId
    · exact absurd hsame hne
    · exact .inl hset
    · exact .inr (.inr haction)
  · exact absurd rfl hne
  · exact .inr (.inl hreset)

/-- What an operation of the host may leave of a port (R298). -/
def Port.HostTouched (q q' : Port) : Prop :=
  q' = { q with state := q'.state, rd := q'.rd } ∧ (q'.state = q.state ∨ q'.state = .idle)

theorem Port.HostTouched.refl (q : Port) : q.HostTouched q := ⟨rfl, .inl rfl⟩

theorem Port.CursorMoved.hostTouched {q q' : Port} (h : q.CursorMoved q') : q.HostTouched q' := by
  obtain ⟨hframe, -⟩ := h
  rw [hframe]
  exact ⟨rfl, .inl rfl⟩

theorem getElem?_set_hostTouched {ports : List Port} {p₀ : PortId} {q₀ q₀' : Port} (hq₀ : ports[p₀]? = some q₀)
    (htouched : q₀.HostTouched q₀') {p : PortId} {q : Port} (hq : ports[p]? = some q) :
    ∃ q', (ports.set p₀ q₀')[p]? = some q' ∧ q.HostTouched q' := by
  by_cases hp : p₀ = p
  · subst hp
    cases hq₀.symm.trans hq
    exact ⟨q₀', List.getElem?_set_self (lt_of_getElem?_eq_some hq₀), htouched⟩
  · exact ⟨q, (List.getElem?_set_ne hp).trans hq, .refl q⟩

/-- Settles O26: a cursor moved, a port released and every port idled are all the host can do. -/
theorem hostNeverForgesAFrame : Obligations.HostNeverForgesAFrame := by
  intro s t i hi h
  obtain hkeeps | ⟨p₀, q₀, -, hheld, rfl⟩ | ⟨-, rfl⟩ := exec_host_next hi h
  · obtain hsame | ⟨p₀, q₀, q₀', hheld, hmoved, hset⟩ := hkeeps.ports
    · rw [hsame]
      exact ⟨rfl, fun p q hq => ⟨q, hq, Port.HostTouched.refl q⟩⟩
    · rw [hset]
      exact ⟨List.length_set, fun p q hq => getElem?_set_hostTouched hheld.1 hmoved.hostTouched hq⟩
  · have hreleased : q₀.HostTouched q₀.release := ⟨rfl, .inr rfl⟩
    exact ⟨List.length_set, fun p q hq => getElem?_set_hostTouched hheld.1 hreleased hq⟩
  · refine ⟨List.length_map _, fun p q hq => ⟨{ q with state := .idle }, ?_, rfl, .inr rfl⟩⟩
    simp [hq]

/-- Settles O27: a byte leaves a held frame held, and of the host's operations only these two write a parse state. -/
theorem onlyReleaseAndResetEndAHold : Obligations.OnlyReleaseAndResetEndAHold := by
  intro s t i p q q' h ⟨hq, hs⟩ hq' hne
  have hself : ∀ {q₁}, (s.ports.set p q₁)[p]? = some q' → q' = q₁ := eq_of_getElem?_putPort_self (q := _)
  obtain ⟨p₀, b, q₀, q₁, e, -, hq₀, hrow, rfl⟩ | hkeeps | ⟨p₀, q₀, rfl, -, rfl⟩ | ⟨hreset, -⟩ := exec_next_cases h
  · by_cases hp : p₀ = p
    · subst hp
      cases hq₀.symm.trans hq
      obtain ⟨rfl, -⟩ := hrow.of_held hs
      exact absurd (hself hq' ▸ hs) hne
    · cases ((List.getElem?_set_ne hp).symm.trans hq').symm.trans hq
      exact absurd hs hne
  · obtain hsame | ⟨p₀, q₀, q₀', hheld, hmoved, hset⟩ := hkeeps.ports
    · cases (hsame ▸ hq').symm.trans hq
      exact absurd hs hne
    · rw [hset] at hq'
      by_cases hp : p₀ = p
      · subst hp
        exact absurd (hself hq' ▸ hmoved.state_eq.trans hheld.2) hne
      · cases ((List.getElem?_set_ne hp).symm.trans hq').symm.trans hq
        exact absurd hs hne
  · by_cases hp : p₀ = p
    · exact .inl (hp ▸ rfl)
    · cases ((List.getElem?_set_ne hp).symm.trans hq').symm.trans hq
      exact absurd hs hne
  · exact .inr hreset

/-- Settles O32: an emission appends to one stream, and no operation but RESET does more. -/
theorem transmitStreamsAreAppendOnly : Obligations.TransmitStreamsAreAppendOnly := by
  intro s t i h
  by_cases hreset : i = .reset
  · subst hreset
    cases h
    refine ⟨List.length_replicate, fun ch bs hbs => ⟨fun hne => absurd rfl hne, fun _ => ?_⟩⟩
    simp [lt_of_getElem?_eq_some hbs]
  have happends : t.tx = s.tx ∨ ∃ ch bs, t.tx = s.tx.modify ch (· ++ bs) := by
    obtain ⟨p, b, q, q', e, -, -, -, rfl⟩ | hkeeps | ⟨p, q, -, -, rfl⟩ | ⟨hreset', -⟩ := exec_next_cases h
    exacts [.inl rfl, hkeeps.tx, .inl rfl, absurd hreset' hreset]
  obtain hsame | ⟨ch₀, cs, hmodify⟩ := happends
  · rw [hsame]
    exact ⟨rfl, fun ch bs hbs => ⟨fun _ => ⟨[], by simpa using hbs⟩, fun hr => absurd hr hreset⟩⟩
  · rw [hmodify]
    refine ⟨List.length_modify .., fun ch bs hbs => ⟨fun _ => ?_, fun hr => absurd hr hreset⟩⟩
    by_cases hch : ch₀ = ch
    · exact ⟨cs, by simp [hch, hbs]⟩
    · exact ⟨[], by simp [hch, hbs]⟩

end Sys2Proof.Machine

namespace Sys2Proof.Machine

/-! ### The invariant of the device (10_state, section 6) -/

theorem inv_of_mem_set {ports : List Port} {p : PortId} {q q' : Port} (hports : ∀ q ∈ ports, q.Inv) (hq' : q'.Inv)
    (hq : q ∈ ports.set p q') : q.Inv := by
  obtain hold | rfl := List.mem_or_eq_of_mem_set hq
  exacts [hports q hold, hq']

/-- Replacing a port by one that meets its invariant keeps the device's. -/
theorem State.Inv.putPort {s : State} (h : s.Inv) {q : Port} (hq : q.Inv) (p : PortId) (o : Output) :
    ((s.putPort p q).report o).Inv := by
  obtain ⟨hports, hone, hchans, hparams, hcollab⟩ := h
  have hlen : (s.ports.set p q).length = s.ports.length := List.length_set
  exact ⟨fun r hr => inv_of_mem_set hports hq hr, hlen ▸ hone, hchans.trans hlen.symm, hparams, hcollab⟩

theorem HostKeeps.inv {i : Instr} {s t : State} (h : HostKeeps i s t) (hinv : s.Inv) : t.Inv := by
  obtain ⟨hports, hone, hchans, hparams, hcollab⟩ := hinv
  have hkept : (∀ q ∈ t.ports, q.Inv) ∧ t.ports.length = s.ports.length := by
    obtain hsame | ⟨p, q, q', hheld, hmoved, hset⟩ := h.ports
    · rw [hsame]
      exact ⟨hports, rfl⟩
    · have hq' : q'.Inv := hmoved.inv hheld.2 (hports q (List.mem_of_getElem? hheld.1))
      rw [hset]
      exact ⟨fun r hr => inv_of_mem_set hports hq' hr, List.length_set⟩
  have htx : t.tx.length = s.tx.length := by
    obtain hsame | ⟨ch, bs, hmodify⟩ := h.tx
    · rw [hsame]
    · rw [hmodify, List.length_modify]
  obtain ⟨hports', hlen⟩ := hkept
  exact ⟨hports', hlen ▸ hone, by rw [htx, hlen, hchans], h.params ▸ hparams, h.collab hcollab⟩

/-- An idle port's invariant is its buffer's canonical form. -/
theorem Port.inv_idle {q : Port} (h : q.Inv) : ({ q with state := .idle } : Port).Inv :=
  Port.inv_of_unaddressed (by simp) h.1

theorem exec_inv {s t : State} {i : Instr} (hinv : s.Inv) (h : exec i s = .next t) : t.Inv := by
  have hport : ∀ {p : PortId} {q : Port}, s.ports[p]? = some q → q.Inv := fun hq => hinv.1 _ (List.mem_of_getElem? hq)
  obtain ⟨p, b, q, q', e, -, hq, hrow, rfl⟩ | hkeeps | ⟨p, q, -, hheld, rfl⟩ | ⟨-, rfl⟩ := exec_next_cases h
  · exact hinv.putPort (hrow.inv (hport hq)) p _
  · exact hkeeps.inv hinv
  · exact hinv.putPort (Port.inv_idle (hport hheld.1)) p _
  · obtain ⟨hports, hone, hchans, hparams, hcollab⟩ := hinv
    refine ⟨?_, by simpa using hone, by simpa using hchans, hparams, hcollab⟩
    intro r hr
    obtain ⟨q, hq, rfl⟩ := List.mem_map.mp hr
    exact Port.inv_idle (hports q hq)

/-- Settles O58: by what the step's input is; every operation keeps the invariant, and so does what the collaborator
does by itself. -/
theorem stepKeepsInvariant : Obligations.StepKeepsInvariant := by
  intro s t hinv h
  obtain ⟨-, hstep⟩ | ⟨inp, rest, -, ⟨i, -, hstep⟩ | ⟨r, -, hstep⟩ | ⟨m, -, hstep⟩ | ⟨v, -, hstep⟩⟩ := step_cases s
  · cases hstep.symm.trans h
    exact hinv
  · exact exec_inv (s := { s with pending := rest }) hinv (hstep.symm.trans h)
  · cases hstep.symm.trans h
  · cases hstep.symm.trans h
    obtain ⟨hports, hone, hchans, hparams, -, hmax⟩ := hinv
    exact ⟨hports, hone, hchans, hparams, List.length_take_le .., hmax⟩
  · cases hstep.symm.trans h
    exact hinv

/-- Settles O2: every port is the reset port, in whose invariant only the empty buffer counts. -/
theorem resetMeetsInvariant : Obligations.ResetMeetsInvariant := by
  have hport : Port.reset.Inv := Port.inv_of_unaddressed (by decide) rfl
  have hports : ∀ q ∈ State.reset.ports, q.Inv := fun q hq => eq_reset_of_mem_reset_ports hq ▸ hport
  have hlen : State.reset.tx.length = State.reset.ports.length := by simp [State.reset]
  have hone : 1 ≤ State.reset.ports.length := by simp [State.reset]
  have hempty : ∀ bs ∈ State.reset.tx, bs = [] := by
    intro bs hbs
    obtain hfirst | hrest := List.mem_cons.mp hbs
    exacts [hfirst, List.eq_of_mem_replicate hrest]
  exact ⟨⟨hports, hone, hlen, Config.device.admissible, by decide⟩, rfl, hempty⟩

/-- Settles O60: nothing an operation can do writes the parameters, and the mark is set with a reported refusal. -/
theorem parametersAreFixedAndRefusalMarkIsSticky : Obligations.ParametersAreFixedAndRefusalMarkIsSticky := by
  intro s t h
  have hmark : t.params = s.params ∧
      (t.refusalSeen = s.refusalSeen ∨ (t.refusalSeen = true ∧ ∃ r, t.out = .refused r)) := by
    obtain ⟨-, hstep⟩ | ⟨inp, rest, -, ⟨i, -, hstep⟩ | ⟨r, -, hstep⟩ | ⟨m, -, hstep⟩ | ⟨v, -, hstep⟩⟩ := step_cases s
    · cases hstep.symm.trans h
      exact ⟨rfl, .inl rfl⟩
    · obtain ⟨p, b, q, q', e, -, -, -, rfl⟩ | hkeeps | ⟨p, q, -, -, rfl⟩ | ⟨-, rfl⟩ :=
        exec_next_cases (hstep.symm.trans h)
      exacts [⟨rfl, .inl rfl⟩, ⟨hkeeps.params, hkeeps.mark⟩, ⟨rfl, .inl rfl⟩, ⟨rfl, .inl rfl⟩]
    · cases hstep.symm.trans h
    · cases hstep.symm.trans h
      exact ⟨rfl, .inl rfl⟩
    · cases hstep.symm.trans h
      exact ⟨rfl, .inl rfl⟩
  obtain ⟨hparams, hsame | ⟨hset, hreported⟩⟩ := hmark
  · exact ⟨hparams, fun hs => hsame.trans hs, fun hs ht => by simp [hsame, hs] at ht⟩
  · exact ⟨hparams, fun _ => hset, fun _ _ => hreported⟩

/-! ### Where an operation completes (30_encoding section 4, logs 12 to 14) -/

theorem onFrame_completes {s : State} {p : PortId} {k : Port → Res} (hp : p < s.ports.length)
    (hk : ∀ q, s.Holds p q → ∃ t, k q = .next t) : ∃ t, onFrame s p k = .next t := by
  have hq : s.ports[p]? = some s.ports[p] := List.getElem?_eq_getElem hp
  by_cases hs : s.ports[p].state = .commandReceived
  · rw [onFrame_held ⟨hq, hs⟩]
    exact hk _ ⟨hq, hs⟩
  · exact ⟨_, onFrame_none hq hs k⟩

section
variable {s : State} (hports : ∀ q ∈ s.ports, q.Inv)
include hports

theorem readOp_completes {p : PortId} (hp : p < s.ports.length) (n : Nat) (value : List Byte → Output) :
    ∃ t, readOp s p n value = .next t := by
  have hq : s.ports[p]? = some s.ports[p] := List.getElem?_eq_getElem hp
  have hinv : s.ports[p].Inv := hports _ (List.mem_of_getElem? hq)
  unfold readOp
  rw [onPort_some hq]
  cases hr : hostRead s.ports[p] n with
  | got | refused => exact ⟨_, rfl⟩
  | fault f => exact absurd hr (hostRead_ne_fault hinv n f)

theorem payload_completes {p : PortId} {q : Port} (h : s.Holds p q) : ∃ pl, q.payload = .ok pl := by
  obtain ⟨pl, hpl, -⟩ := (hports q (List.mem_of_getElem? h.1)).carries h.2
  exact ⟨pl, payload_eq hpl⟩

theorem relayPassArm_completes {p : PortId} {q : Port} (h : s.Holds p q) (ch : ChanId) :
    ∃ t, relayPassArm s ch q = .next t := by
  obtain ⟨pl, hpl, -⟩ := (hports q (List.mem_of_getElem? h.1)).carries h.2
  exact ⟨_, relayPassArm_eq hpl⟩

/-- A control operation on ports and channels the device has completes, but for the two relay arms. -/
theorem exec_request_completes {i : Instr} {r : Request} (hi : encode i = .request r)
    (hwf : i.wf s.ports.length s.tx.length = true) (harm : ∀ p ch, i ≠ .relayPass p ch ∧ i ≠ .relayRewrite p ch) :
    ∃ t, exec i s = .next t := by
  cases i <;> cases hi
  case relayPass p ch => exact absurd rfl (harm p ch).1
  case relayRewrite p ch => exact absurd rfl (harm p ch).2
  case setLocalId | getLocalId | reset => exact ⟨_, rfl⟩
  case txReply ch c pl =>
    simp only [exec, execTxReply, onChan_lt (of_decide_eq_true hwf)]
    split <;> exact ⟨_, rfl⟩
  case txError ch c => exact ⟨_, exec_txError (of_decide_eq_true hwf) c⟩
  case hostRead8 | hostRead16 | hostRead32 => exact readOp_completes hports (of_decide_eq_true hwf) _ _
  case portRelease | route => exact onFrame_completes (of_decide_eq_true hwf) fun q _ => ⟨_, rfl⟩
  case frameView =>
    refine onFrame_completes (of_decide_eq_true hwf) fun q hheld => ?_
    obtain ⟨pl, hpl⟩ := payload_completes hports hheld
    exact ⟨_, by rw [hpl]⟩
  case relay p ch =>
    obtain ⟨hp, hch⟩ : p < s.ports.length ∧ ch < s.tx.length := by simpa [Instr.wf] using hwf
    simp only [exec, execRelay, onChan_lt hch]
    refine onFrame_completes hp fun q hheld => ?_
    split
    · exact ⟨_, rfl⟩
    · exact relayPassArm_completes hports hheld ch

end

/-- A port that meets its invariant has a row for every byte: its write cursor is in the buffer (R41). -/
theorem Port.Inv.rxRow {q : Port} (h : q.Inv) (b : Byte) : ∃ q' e, RxRow q b q' e := by
  obtain hrow | ⟨hs, hwr, hcap, -⟩ := rxStep_cases q b
  · exact hrow
  · obtain ⟨-, -, hbounds, -⟩ := h
    obtain ⟨hlen, -, -⟩ := hbounds (by simp [hs])
    exact absurd (hwr.trans_le hlen) hcap

/-- The decoder selects every byte-step row that is well formed and fits, so it completes as the row decoded. -/
theorem exec_byteRow_completes {s : State} {i : Instr} {p : PortId} {b : Byte} (hi : encode i = .byte p b)
    (hinv : s.Inv) (hwf : i.wf s.ports.length s.tx.length = true) (hfits : i.fits s.env = true) :
    ∃ t, exec i s = .next t := by
  obtain ⟨hports, -, -, ⟨-, -, hcodes, -⟩, -⟩ := hinv
  have hdecode : decode s.env (.byte p b) = .ok i :=
    hi ▸ decodeOfEncodeIsTheOperation s.env i hcodes (by simpa using hwf) hfits
  cases hq : s.ports[p]? with
  | none => simp [decode, hq] at hdecode
  | some q =>
    cases (decode_byte hq rfl).symm.trans hdecode
    obtain ⟨q', e, hrow⟩ := (hports q (List.mem_of_getElem? hq)).rxRow b
    exact ⟨_, hrow.exec_decodeByte hq⟩

theorem portIs_env {s : State} {p : PortId} {q : Port} (hq : s.ports[p]? = some q) (f : PortCtx → Bool) :
    s.env.portIs p f = f q.ctx :=
  portIs_of_getElem? (by simp [hq]) f

/-- A command row answers a next state where its code is the one held, and where no frame is held: there the
refusal with NoFrame is its next state. -/
theorem exec_dispatch_completes {s : State} {i : Instr} {p : PortId} {ch : ChanId} (hi : encode i = .dispatch p ch)
    (hports : ∀ q ∈ s.ports, q.Inv) (hwf : i.wf s.ports.length s.tx.length = true) (hfits : i.fits s.env = true) :
    ∃ t, exec i s = .next t := by
  obtain ⟨selects, hrow⟩ := exec_commandRow hi
  obtain ⟨k, hexec, hk⟩ := hrow.exec_eq s
  obtain ⟨hp, hch⟩ : p < s.ports.length ∧ ch < s.tx.length := by simpa [hrow.wf_eq] using hwf
  rw [hexec, onCommand, onChan_lt hch]
  refine onFrame_completes hp fun q hheld => ?_
  have hsel : selects s.params.codes q.cmd = true := by
    rw [hrow.fits_eq, portIs_env hheld.1] at hfits
    exact hfits
  rw [if_pos hsel]
  exact (hk q hheld).1 (hports q (List.mem_of_getElem? hheld.1))

/-- On a device that meets its invariant every operation the device has completes where its row is selected, but for
the two relay arms. -/
theorem exec_completes {s : State} {i : Instr} (hinv : s.Inv) (hwf : i.wf s.ports.length s.tx.length = true)
    (hfits : i.fits s.env = true) (harm : ∀ p ch, i ≠ .relayPass p ch ∧ i ≠ .relayRewrite p ch) :
    ∃ t, exec i s = .next t := by
  obtain ⟨p, b, hi⟩ | ⟨r, hi⟩ | ⟨p, ch, hi⟩ := encode_cases i
  · exact exec_byteRow_completes hi hinv hwf hfits
  · exact exec_request_completes hinv.1 hi hwf harm
  · exact exec_dispatch_completes hi hinv.1 hwf hfits

theorem fits_of_request {i : Instr} {r : Request} (hi : encode i = .request r) (e : DecodeEnv) : i.fits e = true := by
  cases i <;> cases hi <;> rfl

theorem port_lt_of_wf_byte {i : Instr} {p : PortId} {b : Byte} {nPorts nChans : Nat} (hi : encode i = .byte p b)
    (hwf : i.wf nPorts nChans = true) : p < nPorts := by
  cases i <;> cases hi <;> simp_all [Instr.wf]

/-- A row of the device that is not selected is refused by name; a command row where a frame is held (log 13). -/
theorem exec_notSelected {s : State} {i : Instr} (hwf : i.wf s.ports.length s.tx.length = true)
    (hfits : i.fits s.env = false)
    (hheld : ∀ p ch q, encode i = .dispatch p ch → s.ports[p]? = some q → q.state = .commandReceived) :
    exec i s = .refused .ruleNotSelected := by
  obtain ⟨p, b, hi⟩ | ⟨r, hi⟩ | ⟨p, ch, hi⟩ := encode_cases i
  · obtain ⟨q, hq⟩ : ∃ q, s.ports[p]? = some q := ⟨_, List.getElem?_eq_getElem (port_lt_of_wf_byte hi hwf)⟩
    obtain rfl | hrefused := exec_byteRow_cases hi hq
    · have hselected := (decodeByte_wf_fits (e := s.env) (p := p) (c := q.ctx) (by simp [hq]) b).2
      cases hfits.symm.trans hselected
    · exact hrefused
  · cases hfits.symm.trans (fits_of_request hi s.env)
  · obtain ⟨selects, hrow⟩ := exec_commandRow hi
    obtain ⟨k, hexec, -⟩ := hrow.exec_eq s
    obtain ⟨hp, hch⟩ : p < s.ports.length ∧ ch < s.tx.length := by simpa [hrow.wf_eq] using hwf
    have hq : s.ports[p]? = some s.ports[p] := List.getElem?_eq_getElem hp
    have hother : selects s.params.codes s.ports[p].cmd = false := by
      rw [hrow.fits_eq, portIs_env hq] at hfits
      exact hfits
    rw [hexec, onCommand, onChan_lt hch, onFrame_held ⟨hq, hheld p ch _ hi hq⟩, if_neg (by simp [hother])]

/-- A control operation on a port or channel the device has not is refused by that name. -/
theorem exec_request_illFormed {s : State} {i : Instr} {r : Request} (hi : encode i = .request r)
    (hwf : i.wf s.ports.length s.tx.length = false) :
    exec i s = .refused .noSuchPort ∨ exec i s = .refused .noSuchChannel := by
  cases i <;> cases hi
  case setLocalId | getLocalId | reset => cases hwf
  case txReply ch _ _ => exact .inr (onChan_missing (of_decide_eq_false hwf) _)
  case txError ch _ => exact .inr (onChan_missing (of_decide_eq_false hwf) _)
  case frameView | portRelease | route | hostRead8 | hostRead16 | hostRead32 =>
    have hp := List.getElem?_eq_none (Nat.le_of_not_lt (of_decide_eq_false hwf))
    exact .inl (onPort_missing hp _)
  case relay p ch | relayPass p ch | relayRewrite p ch =>
    by_cases hch : ch < s.tx.length
    · have hp : s.ports[p]? = none := by simpa [Instr.wf, hch] using hwf
      exact .inl ((onChan_lt hch _).trans (onFrame_missing hp _))
    · exact .inr (onChan_missing hch _)

/-- An operation the device has not is refused by name (logs 12, 13). -/
theorem exec_illFormed {s : State} {i : Instr} (hwf : i.wf s.ports.length s.tx.length = false) :
    ∃ r ∈ [Refusal.noSuchPort, .noSuchChannel, .ruleNotSelected], exec i s = .refused r := by
  obtain ⟨p, b, hi⟩ | ⟨r, hi⟩ | ⟨p, ch, hi⟩ := encode_cases i
  · cases hq : s.ports[p]? with
    | none => exact ⟨_, by simp, exec_byteRow_missing hi hq⟩
    | some q =>
      obtain rfl | hrefused := exec_byteRow_cases hi hq
      · have hselected := (decodeByte_wf_fits (e := s.env) (p := p) (c := q.ctx) (by simp [hq]) b).1
        simp only [State.env_ports, State.env_nChans, List.length_map] at hselected
        cases hwf.symm.trans hselected
      · exact ⟨_, by simp, hrefused⟩
  · obtain hport | hchan := exec_request_illFormed hi hwf
    exacts [⟨_, by simp, hport⟩, ⟨_, by simp, hchan⟩]
  · obtain ⟨selects, hrow⟩ := exec_commandRow hi
    obtain ⟨k, hexec, -⟩ := hrow.exec_eq s
    rw [hexec, onCommand]
    by_cases hch : ch < s.tx.length
    · have hp : s.ports[p]? = none := by simpa [hrow.wf_eq, hch] using hwf
      exact ⟨.noSuchPort, by simp, (onChan_lt hch _).trans (onFrame_missing hp _)⟩
    · exact ⟨.noSuchChannel, by simp, onChan_missing hch _⟩

/-- Settles O10: its three cases. -/
theorem operationsRunExactlyWhereSelected : Obligations.OperationsRunExactlyWhereSelected :=
  fun _ _ hinv => ⟨exec_completes hinv, exec_notSelected, exec_illFormed⟩

/-! ### The relay arms (43_relay_mux, section 3) -/

section
variable {s : State} {p : PortId} {ch : ChanId} {q : Port} (hheld : s.Holds p q) (hch : ch < s.tx.length)
include hheld hch

theorem exec_relay_held : exec (.relay p ch) s =
    if q.isEnumFrame s.params.codes then relayRewriteArm s ch q else relayPassArm s ch q :=
  (onChan_lt hch _).trans (onFrame_held hheld _)

theorem exec_relayPass_held : exec (.relayPass p ch) s =
    if q.isEnumFrame s.params.codes then .refused .armNotRequestable else relayPassArm s ch q :=
  (onChan_lt hch _).trans (onFrame_held hheld _)

theorem exec_relayRewrite_held : exec (.relayRewrite p ch) s =
    if q.isEnumFrame s.params.codes then relayRewriteArm s ch q else .refused .armNotRequestable :=
  (onChan_lt hch _).trans (onFrame_held hheld _)

end

/-- A relay arm of the device completes, or is refused as one the frame does not select (R214, log 14). -/
theorem exec_relayArm {s : State} {i : Instr} {p : PortId} {ch : ChanId} (hports : ∀ q ∈ s.ports, q.Inv)
    (hi : i = .relayPass p ch ∨ i = .relayRewrite p ch) (hwf : i.wf s.ports.length s.tx.length = true) :
    (∃ t, exec i s = .next t) ∨ exec i s = .refused .armNotRequestable := by
  obtain ⟨hp, hch⟩ : p < s.ports.length ∧ ch < s.tx.length := by
    obtain rfl | rfl := hi <;> simpa [Instr.wf] using hwf
  have hq : s.ports[p]? = some s.ports[p] := List.getElem?_eq_getElem hp
  by_cases hs : s.ports[p].state = .commandReceived
  · have hheld : s.Holds p s.ports[p] := ⟨hq, hs⟩
    obtain rfl | rfl := hi
    · rw [exec_relayPass_held hheld hch]
      split
      exacts [.inr rfl, .inl (relayPassArm_completes hports hheld ch)]
    · rw [exec_relayRewrite_held hheld hch]
      split
      exacts [.inl ⟨_, rfl⟩, .inr rfl]
  · have hrefused : ∀ k, onChan s ch (onFrame s p k) = .next (s.refuse .noFrame) := fun k =>
      (onChan_lt hch _).trans (onFrame_none hq hs k)
    obtain rfl | rfl := hi
    exacts [.inl ⟨_, hrefused _⟩, .inl ⟨_, hrefused _⟩]

/-- Settles O59: what is decoded is well formed and selected, so it completes, but for a relay arm. -/
theorem stepNeverFaultsAndRarelyRefuses : Obligations.StepNeverFaultsAndRarelyRefuses := by
  intro s hinv
  obtain ⟨-, hstep⟩ | ⟨inp, rest, hpend, ⟨i, hdecode, hstep⟩ | ⟨j, hreject, hstep⟩ | ⟨m, -, hstep⟩ | ⟨v, -, hstep⟩⟩ :=
    step_cases s
  case inr.inl =>
    obtain ⟨hwf, hfits, -⟩ := decodedOperationIsWellFormedAndEncodesBack s.env inp i hdecode
    simp only [State.env_ports, State.env_nChans, List.length_map] at hwf
    by_cases harm : ∃ p ch, i = .relayPass p ch ∨ i = .relayRewrite p ch
    · obtain ⟨p, ch, hi⟩ := harm
      have hdecoded : decode s.env inp = .ok (.relayPass p ch) ∨ decode s.env inp = .ok (.relayRewrite p ch) := by
        obtain rfl | rfl := hi
        exacts [.inl hdecode, .inr hdecode]
      obtain ⟨t, hnext⟩ | hrefused := exec_relayArm (s := { s with pending := rest }) hinv.1 hi hwf
      · simp [hstep, hnext]
      · rw [hstep, hrefused]
        refine ⟨fun _ => nofun, fun r hr => .inr ?_⟩
        cases hr
        exact ⟨rfl, p, ch, inp, rest, hpend, hdecoded⟩
    · have hother : ∀ p ch, i ≠ .relayPass p ch ∧ i ≠ .relayRewrite p ch := fun p ch =>
        ⟨fun h => harm ⟨p, ch, .inl h⟩, fun h => harm ⟨p, ch, .inr h⟩⟩
      obtain ⟨t, hnext⟩ := exec_completes (s := { s with pending := rest }) hinv hwf hfits hother
      simp [hstep, hnext]
  case inr.inr.inl =>
    rw [hstep]
    refine ⟨fun _ => nofun, fun r hr => .inl ?_⟩
    cases hr
    exact ⟨j, inp, rest, rfl, hpend, hreject⟩
  all_goals simp [hstep]

end Sys2Proof.Machine

namespace Sys2Proof.Machine

/-! ### Port control: the local id, the frame view, RESET (41_port_control, 70_reset_and_hazards) -/

/-- Settles O3: RESET is one update of the state. -/
theorem resetOperationWritesStatesLocalIdAndStreamsOnly :
    Obligations.ResetOperationWritesStatesLocalIdAndStreamsOnly := by
  intro s
  have hidle : ∀ (p : PortId) (q : Port), s.ports[p]? = some q →
      s.resetBlock.ports[p]? = some { q with state := .idle } := fun p q hq => by simp [hq]
  have hempty : ∀ bs ∈ s.resetBlock.tx, bs = [] := fun bs hbs => List.eq_of_mem_replicate hbs
  exact ⟨s.resetBlock.report .done, rfl, rfl, List.length_map _, hidle, List.length_replicate, hempty,
    rfl, rfl, rfl, rfl,
    rfl, rfl, rfl⟩

/-- Settles O23: both operations are one update of the state. -/
theorem localIdIsStoredAndReadBack : Obligations.LocalIdIsStoredAndReadBack :=
  fun _ _ => ⟨rfl, rfl⟩

/-- Settles O19: the frame held carries its payload, which FRAME_VIEW reads whole. -/
theorem frameViewShowsTheHeldFrame : Obligations.FrameViewShowsTheHeldFrame := by
  intro s p q hq
  refine ⟨fun pl hs hpl => ?_, fun hs => onFrame_none hq hs _⟩
  simp only [exec, execFrameView, onFrame_held ⟨hq, hs⟩, payload_eq hpl]
  rfl

/-! ### Port control: the reads through the cursor -/

section
variable {s : State} {p : PortId} {q : Port} (hq : s.ports[p]? = some q)
include hq

theorem readOp_got {bs : List Byte} (hs : q.state = .commandReceived) (hbs : q.Operand bs)
    (value : List Byte → Output) :
    readOp s p bs.length value =
      .next ((s.putPort p { q with rd := q.rd + BitVec.ofNat 7 bs.length }).report (value bs)) := by
  simp only [readOp, onPort_some hq, hostRead_got hs hbs.1 hbs.2]

theorem readOp_noFrame (hs : q.state ≠ .commandReceived) (n : Nat) (value : List Byte → Output) :
    readOp s p n value = .next (s.refuse .noFrame) := by
  simp only [readOp, onPort_some hq, hostRead_noFrame hs]

theorem readOp_pastEnd {n : Nat} (hs : q.state = .commandReceived) (hshort : q.len.toNat < q.rd.toNat + n)
    (value : List Byte → Output) : readOp s p n value = .next (s.refuse .readPastEnd) := by
  simp only [readOp, onPort_some hq, hostRead_pastEnd hs (Nat.not_le_of_lt hshort)]

end

theorem readOp_next {s t : State} {p : PortId} {n : Nat} {value : List Byte → Output}
    (h : readOp s p n value = .next t) :
    (∃ q bs q', s.ports[p]? = some q ∧ hostRead q n = .got bs q' ∧ t = (s.putPort p q').report (value bs)) ∨
      ∃ r, t = s.refuse r := by
  obtain ⟨q, hq, h⟩ := onPort_next h
  split at h <;> cases h
  · rename_i bs q' hr
    exact .inl ⟨q, bs, q', hq, hr, rfl⟩
  · exact .inr ⟨_, rfl⟩

/-- The three host reads and their widths. -/
theorem exec_hostRead {p : PortId} {i : Instr} {n : Nat}
    (h : (i, n) ∈ [(Instr.hostRead8 p, 1), (.hostRead16 p, 2), (.hostRead32 p, 4)]) :
    ∃ value, ∀ s, exec i s = readOp s p n value := by
  simp only [List.mem_cons, Prod.mk.injEq, List.not_mem_nil, or_false] at h
  obtain ⟨rfl, rfl⟩ | ⟨rfl, rfl⟩ | ⟨rfl, rfl⟩ := h
  all_goals exact ⟨_, fun _ => rfl⟩

/-- Settles O21: each read is `readOp` of its width, with the bytes put together low first. -/
theorem hostReadsReturnLittleEndianAndAdvance : Obligations.HostReadsReturnLittleEndianAndAdvance := by
  intro s p q hq
  refine ⟨fun a hs hop => ?_, fun a b hs hop => ?_, fun a b c d hs hop => ?_, fun i n hi => ?_⟩
  · exact readOp_got hq hs hop _
  · exact readOp_got hq hs hop _
  · exact readOp_got hq hs hop _
  · obtain ⟨value, hexec⟩ := exec_hostRead hi
    rw [hexec]
    exact ⟨fun hs => readOp_noFrame hq hs n value, fun hs hshort => readOp_pastEnd hq hs hshort value⟩

/-! ### A wide read is two narrower ones (R68) -/

theorem Port.Cells.append {q : Port} {i : Nat} {as bs : List Byte} (ha : q.Cells i as) (hb : q.Cells (i + as.length) bs) :
    q.Cells i (as ++ bs) := by
  obtain ⟨-, ha⟩ := ha
  obtain ⟨hcap, hb⟩ := hb
  refine ⟨by simp only [List.length_append]; omega, fun j hj => ?_⟩
  simp only [List.length_append] at hj
  by_cases hlt : j < as.length
  · rw [ha j hlt, List.getElem?_append_left hlt]
  · have hcell := hb (j - as.length) (by omega)
    rw [List.getElem?_append_right (by omega), ← hcell]
    congr 1
    omega

/-- A cursor moved within the buffer does not wrap (R29). -/
theorem cursor_add_toNat {c : Cursor} {n : Nat} (h : c.toNat + n ≤ Config.bufCap) :
    (c + BitVec.ofNat 7 n).toNat = c.toNat + n := by
  have hle : c.toNat + n ≤ 64 := h
  rw [BitVec.toNat_add, BitVec.toNat_ofNat]
  omega

/-- What a read of one byte or more has read, and where it has left the cursor. -/
theorem hostRead_got_inv {q q' : Port} {n : Nat} {bs : List Byte} (hn : 0 < n) (h : hostRead q n = .got bs q') :
    q.state = .commandReceived ∧ bs.length = n ∧ q.Operand bs ∧
      q' = { q with rd := q.rd + BitVec.ofNat 7 n } ∧ q'.rd.toNat = q.rd.toNat + n := by
  obtain ⟨bs, hr, hs, hle, hread⟩ | ⟨r, hr⟩ | ⟨f, hr, -⟩ := hostRead_cases q n <;> cases hr.symm.trans h
  have hstart : q.rd.toNat < Config.bufCap := by
    obtain ⟨m, rfl⟩ := Nat.exists_eq_succ_of_ne_zero hn.ne'
    simp only [bufReads] at hread
    split at hread
    · cases hread
    · rename_i hfirst
      exact (bufRead_ok_iff.mp hfirst).1
  obtain ⟨hlen, hcells⟩ := bufReads_inv hstart.le hread
  exact ⟨hs, hlen, ⟨hlen.symm ▸ hle, hcells⟩, rfl, cursor_add_toNat (hlen ▸ hcells.1)⟩

theorem hostRead_append {q q₁ q₂ : Port} {m n : Nat} {as bs : List Byte} (hm : 0 < m) (hn : 0 < n)
    (ha : hostRead q m = .got as q₁) (hb : hostRead q₁ n = .got bs q₂) :
    hostRead q (m + n) = .got (as ++ bs) q₂ := by
  obtain ⟨hs, rfl, ⟨-, hcells⟩, hq₁, hrd⟩ := hostRead_got_inv hm ha
  obtain ⟨-, rfl, hop, rfl, -⟩ := hostRead_got_inv hn hb
  obtain ⟨hle, hcells'⟩ : q.rd.toNat + as.length + bs.length ≤ q.len.toNat ∧
      q.Cells (q.rd.toNat + as.length) bs := by
    rw [← hrd]
    rw [hq₁] at hop ⊢
    exact hop
  have hread := hostRead_got hs (bs := as ++ bs) (by simp only [List.length_append]; omega) (hcells.append hcells')
  rw [List.length_append] at hread
  rw [hread, hq₁, BitVec.ofNat_add, ← BitVec.add_assoc]

/-- Two reads that succeed are one read of both widths. -/
theorem readOp_append {s t u : State} {p : PortId} {m n : Nat} {value value' : List Byte → Output} (hm : 0 < m)
    (hn : 0 < n) (ht : readOp s p m value = .next t) (htout : ∀ r, t.out ≠ .refused r)
    (hu : readOp t p n value' = .next u) (huout : ∀ r, u.out ≠ .refused r) :
    ∃ as bs, as.length = m ∧ bs.length = n ∧ t.out = value as ∧ u.out = value' bs ∧
      ∀ value'', readOp s p (m + n) value'' = .next { u with out := value'' (as ++ bs) } := by
  obtain ⟨q, as, q₁, hq, ha, rfl⟩ | ⟨r, rfl⟩ := readOp_next ht
  · obtain ⟨q₁', bs, q₂, hq₁, hb, rfl⟩ | ⟨r, rfl⟩ := readOp_next hu
    · cases eq_of_getElem?_putPort_self hq₁
      obtain ⟨-, hlen, -⟩ := hostRead_got_inv hm ha
      obtain ⟨-, hlen', -⟩ := hostRead_got_inv hn hb
      refine ⟨as, bs, hlen, hlen', rfl, rfl, fun value'' => ?_⟩
      simp only [readOp, onPort_some hq, hostRead_append hm hn ha hb]
      simp [State.putPort, State.report]
    · exact absurd rfl (huout r)
  · exact absurd rfl (htout r)

/-- Settles O22: the two reads' bytes, one behind the other, are the wide read's. -/
theorem wideReadIsTwoNarrowReads : Obligations.WideReadIsTwoNarrowReads := by
  intro s t u p
  refine ⟨fun lo hi ht htout hu huout => ?_, fun lo hi ht htout hu huout => ?_⟩
  · obtain ⟨as, bs, ha, hb, hlo, hhi, hwide⟩ :=
      readOp_append (by decide) (by decide) ht (by simp [htout]) hu (by simp [huout])
    obtain ⟨a, rfl⟩ := List.length_eq_one_iff.mp ha
    obtain ⟨b, rfl⟩ := List.length_eq_one_iff.mp hb
    cases htout.symm.trans hlo
    cases huout.symm.trans hhi
    exact hwide _
  · obtain ⟨as, bs, ha, hb, hlo, hhi, hwide⟩ :=
      readOp_append (by decide) (by decide) ht (by simp [htout]) hu (by simp [huout])
    obtain ⟨a, b, rfl⟩ := List.length_eq_two.mp ha
    obtain ⟨c, d, rfl⟩ := List.length_eq_two.mp hb
    cases htout.symm.trans hlo
    cases huout.symm.trans hhi
    exact hwide _

/-! ### Refusals (60_exceptions, R290) -/

/-- Settles O25: every operation on a frame asks for a held one first, the reads and TX_REPLY for their bounds. -/
theorem refusedOperationChangesNothing : Obligations.RefusedOperationChangesNothing := by
  refine ⟨fun s p ch q i hq hs hch hi => ?noFrame, fun s ch c pl hch hpl => ?replyTooLong,
    fun s p q i n hheld hshort hi => ?readPastEnd⟩
  case noFrame =>
    obtain hcontrol | hdispatch := hi
    · simp only [List.mem_cons, List.not_mem_nil, or_false] at hcontrol
      obtain rfl | rfl | rfl | rfl | rfl | rfl | rfl | rfl | rfl := hcontrol
      case inr.inr.inl | inr.inr.inr.inl | inr.inr.inr.inr.inl => exact readOp_noFrame hq hs _ _
      case inl | inr.inl | inr.inr.inr.inr.inr.inl => exact onFrame_none hq hs _
      all_goals exact (onChan_lt hch _).trans (onFrame_none hq hs _)
    · obtain ⟨selects, hrow⟩ := exec_commandRow hdispatch
      obtain ⟨k, hexec, -⟩ := hrow.exec_eq s
      rw [hexec]
      exact (onChan_lt hch _).trans (onFrame_none hq hs _)
  case replyTooLong => exact (onChan_lt hch _).trans (if_neg (Nat.not_le_of_lt hpl))
  case readPastEnd =>
    obtain ⟨value, hexec⟩ := exec_hostRead hi
    rw [hexec]
    exact readOp_pastEnd hheld.1 hheld.2 hshort value

/-! ### The success reply (42_tx_framer, section 2) -/

theorem xorList_eq_foldr (bs : List Byte) : xorList bs = bs.foldr (· ^^^ ·) 0 := List.foldl_eq_foldr ..

/-- Settles O28: the reply is `REPLY_OK(c, payload)` (R107). -/
theorem successReplyBytes : Obligations.SuccessReplyBytes := by
  intro s ch c pl hch
  refine ⟨fun hpl => ?_, fun hpl => (onChan_lt hch _).trans (if_neg (Nat.not_le_of_lt hpl))⟩
  have hexec : exec (.txReply ch c pl) s = .next (s.reply ch c pl) := (onChan_lt hch _).trans (if_pos hpl)
  rw [hexec, ← xorList_eq_foldr]
  rfl

/-! ### Routing (43_relay_mux, sections 1 and 2) -/

theorem exec_route_held {s : State} {p : PortId} {q : Port} (hheld : s.Holds p q) :
    exec (.route p) s = .next (s.report (.verdict (s.params.policy.apply (q.routeKey s.localId)))) :=
  onFrame_held hheld _

/-- Settles O33: ROUTE reports the policy's verdict on the route key. -/
theorem routeReturnsThePolicysVerdict : Obligations.RouteReturnsThePolicysVerdict :=
  fun _ _ _ hq => ⟨fun hs => exec_route_held ⟨hq, hs⟩, fun hs => onFrame_none hq hs _⟩

/-- An admissible policy's verdict is permitted, exceptions included (R204). -/
theorem permits_apply {π : Policy} (h : π.Admissible) (k : RouteKey) : k.permits (π.apply k) = true := by
  obtain ⟨hneither, hlocal, hwildcard, hboth, hexceptions⟩ := h
  unfold Policy.apply
  split
  · rename_i v hv
    obtain ⟨l, l', hsplit, -⟩ := List.lookup_eq_some_iff.mp hv
    exact hexceptions (k, v) (by simp [hsplit])
  · obtain ⟨matchLocal, matchWildcard, d, c⟩ := k
    cases matchLocal <;> cases matchWildcard
    exacts [hneither, hwildcard, hlocal, hboth]

/-- Settles O34: the verdict reported is the policy's, which is permitted. -/
theorem matchingFramesAreDispatchedOthersRelayed : Obligations.MatchingFramesAreDispatchedOthersRelayed := by
  rintro s t p q v ⟨-, -, -, hpolicy⟩ hheld h hout
  cases (exec_route_held hheld).symm.trans h
  obtain rfl : s.params.policy.apply (q.routeKey s.localId) = v := by simpa using hout
  have hpermits := permits_apply hpolicy (q.routeKey s.localId)
  have hwild : (q.targetId = 0) = (q.targetId = Config.wildcard) := rfl
  simp only [RouteKey.permits, Port.routeKey, Port.matchLocal, Port.matchWildcard] at hpermits
  refine ⟨fun hmatch => ?_, fun hlocal hwildcard => ?_⟩
  · rw [hwild] at hmatch
    simpa [hmatch, Port.routeKey, Port.matchLocal, Port.matchWildcard] using hpermits
  · rw [Ne, hwild] at hwildcard
    simpa [hlocal, hwildcard, Port.routeKey, Port.matchLocal, Port.matchWildcard] using hpermits

/-- Settles O35: the table has four rows and no exception. -/
theorem referencePolicyTable : Obligations.ReferencePolicyTable := by
  refine ⟨by decide, fun ⟨matchLocal, matchWildcard, _, _⟩ => ?_⟩
  cases matchLocal <;> cases matchWildcard <;> rfl

/-! ### Relay (43_relay_mux, section 3) -/

theorem isEnumFrame_iff {q : Port} {k : Codes} : q.isEnumFrame k = true ↔ q.dir = 0x3C ∧ q.cmd = k.setDeviceId := by
  simp [Port.isEnumFrame, Config.dirAction]

/-- Settles O36: the frame selects the pass-through arm, which serialises what the port holds. -/
theorem otherFramesAreRelayedUnchanged : Obligations.OtherFramesAreRelayedUnchanged := by
  intro s p ch q pl hheld hch hother hpl
  have hsel : ¬ q.isEnumFrame s.params.codes = true := isEnumFrame_iff.not.mpr hother
  refine ⟨fun i hi => ?_, (exec_relayRewrite_held hheld hch).trans (if_neg hsel)⟩
  have harm : exec i s = relayPassArm s ch q := by
    simp only [List.mem_cons, List.not_mem_nil, or_false] at hi
    obtain rfl | rfl := hi
    · exact (exec_relay_held hheld hch).trans (if_neg hsel)
    · exact (exec_relayPass_held hheld hch).trans (if_neg hsel)
  rw [harm, relayPassArm_eq hpl]
  rfl

/-- The enumeration arm's frame, byte for byte (R211). -/
theorem serialize_singleton (d i c v : Byte) : serialize d i c [v] = [0x24, 0x4D, d, i, 1, c, v, 1 ^^^ c ^^^ v] := by
  have hck : checksum 1 c [v] = 1 ^^^ c ^^^ v := by simp [checksum, xorList]
  rw [← hck]
  rfl

/-- Settles O37: the frame selects the enumeration arm, whose payload is the local id plus one. -/
theorem enumerationFramesAreRestamped : Obligations.EnumerationFramesAreRestamped := by
  intro s p ch q v hheld hch hdir hcmd hv
  have hsel : q.isEnumFrame s.params.codes = true := isEnumFrame_iff.mpr ⟨hdir, hcmd⟩
  refine ⟨fun i hi => ?_, (exec_relayPass_held hheld hch).trans (if_pos hsel)⟩
  have harm : exec i s = relayRewriteArm s ch q := by
    simp only [List.mem_cons, List.not_mem_nil, or_false] at hi
    obtain rfl | rfl := hi
    · exact (exec_relay_held hheld hch).trans (if_pos hsel)
    · exact (exec_relayRewrite_held hheld hch).trans (if_pos hsel)
  obtain rfl : v = s.localId + 1 := by
    apply BitVec.eq_of_toNat_eq
    rw [hv, BitVec.toNat_add]
    rfl
  rw [harm, relayRewriteArm, Port.rewriteBytes, serialize_singleton, hdir, hcmd]
  rfl

end Sys2Proof.Machine

namespace Sys2Proof.Machine

/-! ### The queries of the dispatcher (44_dispatch_contract, section 3) -/

/-- A query on a frame of its code is answered with its data (R234). -/
theorem query_serves {s : State} {p : PortId} {ch : ChanId} {q : Port} {code : Codes → Byte}
    (h : s.Serves p ch q (code s.params.codes)) (data : List Byte) :
    query s p ch code data = .next (s.reply ch q.cmd data) := by
  obtain ⟨hheld, hch, hcode⟩ := h
  exact onCommand_held hheld hch (g := fun k c => c == code k) (by simp [hcode]) _

/-- A three-byte reply, byte for byte. -/
theorem serialize_three (d i c x y z : Byte) :
    serialize d i c [x, y, z] = [0x24, 0x4D, d, i, 3, c, x, y, z, 3 ^^^ c ^^^ x ^^^ y ^^^ z] := by
  have hck : checksum 3 c [x, y, z] = 3 ^^^ c ^^^ x ^^^ y ^^^ z := by simp [checksum, xorList, BitVec.xor_assoc]
  rw [← hck]
  rfl

/-- Settles O40: the replies are serialised frames of three bytes and of one. -/
theorem versionAndDeviceIdReplies : Obligations.VersionAndDeviceIdReplies := by
  refine fun s p ch q => ⟨fun h => ?_, fun h => ?_⟩
  · obtain ⟨-, -, hcode⟩ := id h
    rw [← serialize_three, ← hcode]
    exact query_serves h _
  · obtain ⟨-, -, hcode⟩ := id h
    rw [← serialize_singleton, ← hcode]
    exact query_serves h _

/-- Settles O41: the two bytes of a setting are its encoding. -/
theorem settingQueriesReply : Obligations.SettingQueriesReply := by
  refine fun s p ch q x y => ⟨fun h hset => ?_, fun h hset => ?_, fun h hset => ?_⟩
  · have hdata : enc16 s.collab.settings.channel = [x, y] := hset ▸ enc16_half x y
    rw [← hdata]
    exact query_serves h _
  · have hdata : enc16 s.collab.settings.threshold = [x, y] := hset ▸ enc16_half x y
    rw [← hdata]
    exact query_serves h _
  · rw [← hset]
    exact query_serves h _

/-- Settles O42: each query's data are the fields it lists. -/
theorem bundleQueriesReply : Obligations.BundleQueriesReply := by
  rintro s p ch q _ rfl
  exact ⟨fun h => query_serves h _, fun h => query_serves h _, fun h => query_serves h _, fun h => query_serves h _⟩

/-- Settles O44: the last record, or what LAST_LAP_EMPTY says. -/
theorem lastLapReply : Obligations.LastLapReply := by
  intro s p ch q h
  refine ⟨fun n l hlen hl => ?_, fun hempty hzero => ?_, fun hempty herror => ?_⟩
  · have hlast : s.collab.measured.laps.getLast? = some l := by
      rw [List.getLast?_eq_getElem?, hlen]
      exact hl
    have hdata : lapCountByte s.collab.measured = BitVec.ofNat 8 (n + 1) := by rw [lapCountByte, hlen]
    simp only [exec, execQueryLastLap, hlast, ← hdata]
    exact query_serves h _
  · simp only [exec, execQueryLastLap, hempty, hzero, List.getLast?_nil]
    exact query_serves h _
  · obtain ⟨hheld, hch, hcode⟩ := h
    simp only [exec, execQueryLastLap, hempty, herror, List.getLast?_nil]
    exact onCommand_held hheld hch (g := fun k c => c == k.lastLap) (by simp [hcode]) _

/-- The data of a selected-lap reply: nine bytes, the last eight of a selected entry its record (R251). -/
def selectedLapData (s : State) : List Byte :=
  match selectedEntry s.params.selectedEntry s.collab.measured.laps s.selection with
  | some l => Config.freeByte s.fresh :: lapBytes l
  | none => freeBytes s.fresh 9

theorem length_selectedLapData (s : State) : (selectedLapData s).length = 9 := by
  unfold selectedLapData
  split
  · rfl
  · simp [freeBytes]

/-- The entry a selection below the lap count names, under either reading (R251). -/
theorem selectedEntry_eq {which : SelectedEntry} {laps : List Lap} {selection : Byte} {n : Nat}
    (hlt : selection.toNat < laps.length)
    (hn : which = .atSelection ∧ n = selection.toNat ∨ which = .beforeSelection ∧ n + 1 = selection.toNat) :
    selectedEntry which laps selection = laps[n]? := by
  simp only [selectedEntry, if_pos hlt]
  obtain ⟨rfl, rfl⟩ | ⟨rfl, hn⟩ := hn
  · rfl
  · rw [← hn]

/-- Settles O45: the reply's data are `selectedLapData`. -/
theorem selectedLapReply : Obligations.SelectedLapReply := by
  intro s p ch q ⟨hheld, hch, hcode⟩
  refine ⟨selectedLapData s, length_selectedLapData s, ?_, fun n l hlt hn hl => ?_⟩
  · exact onCommand_held hheld hch (g := fun k c => c == k.selectedLap) (by simp [hcode]) _
  · simp only [selectedLapData, (selectedEntry_eq hlt hn).trans hl]
    rfl

/-! ### The actions of the dispatcher (44_dispatch_contract, section 4) -/

section
variable {s : State} {p : PortId} {ch : ChanId} {q : Port} {code : Codes → Byte}
  (h : s.Serves p ch q (code s.params.codes)) {effect : List Byte → State → State}
include h

/-- An action without an operand has its effect and is answered (R235). -/
theorem action_noOperand : action s p ch code [] effect = .next ((effect [] s).reply ch q.cmd []) := by
  obtain ⟨hheld, hch, hcode⟩ := h
  rw [action_got hheld hch hcode (q' := q) (bs := []) rfl, putPort_self hheld.1]

/-- An action reads its operand, has its effect and is answered (R235, R240). -/
theorem action_operand {bs : List Byte} (hop : q.Operand bs) :
    action s p ch code [bs.length] effect =
      .next ((effect bs (s.putPort p { q with rd := q.rd + BitVec.ofNat 7 bs.length })).reply ch q.cmd []) := by
  obtain ⟨hheld, hch, hcode⟩ := h
  refine action_got hheld hch hcode ?_
  simp [hostReads, hostRead_got hheld.2 hop.1 hop.2]

/-- An action whose first operand is not all there has no effect (R240, D40). -/
theorem action_short {n : Nat} (ns : List Nat) (hshort : q.len.toNat < q.rd.toNat + n) :
    action s p ch code (n :: ns) effect = .next (shortAction s ch .readPastEnd q.cmd) := by
  obtain ⟨hheld, hch, hcode⟩ := h
  have hread : hostReads q (n :: ns) = .refused .readPastEnd q := by
    simp only [hostReads, hostRead_pastEnd hheld.2 (Nat.not_le_of_lt hshort)]
  rw [action, onCommand_held hheld hch (g := fun k c => c == code k) (by simp [hcode]), hread]
  simp only [putPort_self hheld.1]

end

/-- An action that is a trigger raises it and is answered (R235, R267). -/
theorem exec_trigger {s : State} {i : Instr} {p : PortId} {ch : ChanId} {q : Port} {code : Codes → Byte} {g : Trigger}
    (h : s.Serves p ch q (code s.params.codes)) (hexec : exec i s = action s p ch code [] fun _ t => t.raise g) :
    exec i s = .next ((s.raise g).reply ch (code s.params.codes) []) := by
  obtain ⟨-, -, hcode⟩ := id h
  rw [hexec, action_noOperand h, hcode]

/-- The five actions that are a trigger after which the collaborator's data are free within its bounds (log 19). -/
theorem exec_triggerAction {s : State} {p : PortId} {ch : ChanId} {i : Instr} {k : Byte} {g : Trigger}
    (h : (i, k, g) ∈
      [(Instr.actionReset p ch, s.params.codes.reset, Trigger.reset),
        (.actionCalibrate p ch, s.params.codes.calibrate, .calibrate),
        (.actionStart p ch, s.params.codes.start, .start),
        (.actionActivate p ch, s.params.codes.activate, .activate),
        (.actionDeactivate p ch, s.params.codes.deactivate, .deactivate)]) :
    ∃ code : Codes → Byte, k = code s.params.codes ∧ (exec i s = action s p ch code [] fun _ t => t.raise g) ∧
      CollabInv (collabAfter s.collab s.fresh g) := by
  simp only [List.mem_cons, Prod.mk.injEq, List.not_mem_nil, or_false] at h
  obtain ⟨rfl, rfl, rfl⟩ | ⟨rfl, rfl, rfl⟩ | ⟨rfl, rfl, rfl⟩ | ⟨rfl, rfl, rfl⟩ | ⟨rfl, rfl, rfl⟩ := h
  exacts [⟨Codes.reset, rfl, rfl, collabInv_boundCollab _⟩, ⟨Codes.calibrate, rfl, rfl, collabInv_boundCollab _⟩,
    ⟨Codes.start, rfl, rfl, collabInv_boundCollab _⟩, ⟨Codes.activate, rfl, rfl, collabInv_boundCollab _⟩,
    ⟨Codes.deactivate, rfl, rfl, collabInv_boundCollab _⟩]

/-- Settles O46: each action is its trigger, after which the collaborator's data are bounded. -/
theorem triggerActionsRaiseAndAcknowledge : Obligations.TriggerActionsRaiseAndAcknowledge := by
  intro s p ch q i k g hmem h
  obtain ⟨code, rfl, hexec, hbounded⟩ := exec_triggerAction hmem
  exact ⟨collabAfter s.collab s.fresh g, hbounded, exec_trigger h hexec⟩

/-- Settles O47: persistence leaves the collaborator's data. -/
theorem persistActionRaisesAndAcknowledges : Obligations.PersistActionRaisesAndAcknowledges :=
  fun _ p ch _ h => exec_trigger (i := .actionPersist p ch) (g := .persist) h rfl

/-- Settles O48: the id is new before the reply is made. -/
theorem setDeviceIdAppliesBeforeReplying : Obligations.SetDeviceIdAppliesBeforeReplying := by
  intro s p ch q v new h hop hnew
  obtain rfl : new = newLocalId s.params.setIdZero s.localId v := by
    rw [hnew]
    cases s.params.setIdZero <;> simp [newLocalId]
  show execActionSetDeviceId p ch s = _
  exact (action_operand h hop).trans rfl

theorem clampSelection_toNat (v : Byte) (count : Nat) : (clampSelection v count).toNat = min v.toNat count := by
  have hlt : min v.toNat count < 2 ^ 8 := (Nat.min_le_left ..).trans_lt v.isLt
  rw [clampSelection, BitVec.toNat_ofNat, Nat.mod_eq_of_lt hlt]

/-- Settles O49: the two clamps are within a byte. -/
theorem selectionAndLapMaximumAreClamped : Obligations.SelectionAndLapMaximumAreClamped := by
  intro s p ch q v hop
  refine ⟨fun h => ⟨_, clampSelection_toNat _ _, ?_⟩, fun h => ⟨_, clampLapMax_toNat _, ?_⟩⟩
  · show execActionSelectLap p ch s = _
    exact (action_operand h hop).trans rfl
  · show execActionSetLapMax p ch s = _
    exact (action_operand h hop).trans rfl

/-- Settles O50: each setting is its operand. -/
theorem thresholdAndDebugAreStored : Obligations.ThresholdAndDebugAreStored := by
  refine fun s p ch q a b => ⟨fun h hop => ?_, fun h hop => ?_⟩
  · show execActionSetRssiThreshold p ch s = _
    exact (action_operand h hop).trans rfl
  · show execActionSetDebug p ch s = _
    exact (action_operand h hop).trans rfl

/-- Whole seconds in milliseconds fit in 32 bits (R263). -/
theorem milliseconds_toNat (lo hi : Byte) :
    ((half lo hi).setWidth 32 * 1000 : Word).toNat = (hi.toNat * 256 + lo.toNat) * 1000 := by
  have hlo := lo.isLt
  have hhi := hi.isLt
  have hthousand : (1000 : Word).toNat = 1000 := rfl
  rw [BitVec.toNat_mul, BitVec.toNat_setWidth, half_toNat, hthousand]
  omega

/-- Settles O43: no product overflows, and a quotient that fits is reported as it is. -/
theorem minimumLapTimeRoundTrip : Obligations.MinimumLapTimeRoundTrip := by
  refine fun s p ch q => ⟨fun lo hi h hop => ⟨_, milliseconds_toNat lo hi, ?_⟩, fun h secs hsecs => ?_⟩
  · show execActionSetLapMinTime p ch s = _
    exact (action_operand h hop).trans rfl
  · have hdata : (s.collab.settings.minLapMs / 1000).setWidth 16 = secs := by
      have hlt := secs.isLt
      have hthousand : (1000 : Word).toNat = 1000 := rfl
      apply BitVec.eq_of_toNat_eq
      rw [BitVec.toNat_setWidth, BitVec.toNat_udiv, hthousand, hsecs]
      exact Nat.mod_eq_of_lt hlt
    rw [← hdata]
    exact query_serves h _

/-- An operand of two parts is read part by part, the cursor standing between them (R240). -/
theorem Port.Operand.split {q : Port} {as bs : List Byte} (h : q.Operand (as ++ bs)) :
    q.Operand as ∧ ({ q with rd := q.rd + BitVec.ofNat 7 as.length } : Port).Operand bs := by
  obtain ⟨hle, hcap, hcells⟩ := h
  simp only [List.length_append] at hle hcap hcells
  have hcursor : (q.rd + BitVec.ofNat 7 as.length).toNat = q.rd.toNat + as.length := cursor_add_toNat (by omega)
  refine ⟨⟨by omega, by omega, fun j hj => ?_⟩, ?_⟩
  · rw [hcells j (by omega), List.getElem?_append_left hj]
  · simp only [Port.Operand, Port.Cells, hcursor]
    refine ⟨by omega, by omega, fun j hj => ?_⟩
    rw [Nat.add_assoc, hcells (as.length + j) (by omega), List.getElem?_append_right (by omega), Nat.add_sub_cancel_left]

/-- Reads one after the other, each of its operand: the bytes are joined and the cursor is behind them (R240). -/
theorem hostReads_two {q : Port} {as bs : List Byte} (hs : q.state = .commandReceived) (hop : q.Operand (as ++ bs)) :
    hostReads q [as.length, bs.length] =
      .got (as ++ bs) { q with rd := q.rd + BitVec.ofNat 7 as.length + BitVec.ofNat 7 bs.length } := by
  obtain ⟨hfirst, hsecond⟩ := hop.split
  have hread := hostRead_got hs hfirst.1 hfirst.2
  have hread' := hostRead_got (q := { q with rd := q.rd + BitVec.ofNat 7 as.length }) hs hsecond.1 hsecond.2
  simp only [hostReads, hread, hread', List.append_nil]

/-- Settles O51: the settings are the operands, and the triggers leave all but the RSSI readings. -/
theorem channelAndFilterAreStoredAndTrigger : Obligations.ChannelAndFilterAreStoredAndTrigger := by
  refine fun s p ch q a b c d => ⟨fun h hop => ?_, fun h hop => ?_⟩
  · refine ⟨(collabAfter s.collab s.fresh .retune).measured, rfl, rfl, rfl, ?_⟩
    show execActionSetChannel p ch s = _
    exact (action_operand h hop).trans rfl
  · obtain ⟨hheld, hch, hcode⟩ := h
    have hreads := hostReads_two (as := [a, b]) (bs := [c, d]) hheld.2 hop
    have hcursor : q.rd + BitVec.ofNat 7 2 + BitVec.ofNat 7 2 = q.rd + 4 := BitVec.add_assoc ..
    simp only [List.length_cons, List.length_nil] at hreads
    rw [hcursor] at hreads
    refine ⟨(collabAfter s.collab s.fresh .recompute).measured, rfl, rfl, rfl, ?_⟩
    show execActionSetRssiFilter p ch s = _
    exact (action_got hheld hch hcode hreads).trans rfl

/-! ### An action on a short frame (R240, decision D40) -/

theorem shortAction_noReply {s : State} (h : s.params.shortAction = .noReply) (ch : ChanId) (r : Reason) (c : Byte) :
    shortAction s ch r c = s.refuse r := by simp only [shortAction, h]

theorem shortAction_errorReply {s : State} (h : s.params.shortAction = .errorReply) (ch : ChanId) (r : Reason)
    (c : Byte) : shortAction s ch r c = (s.replyError ch c).refuse r := by simp only [shortAction, h]

/-- The eight actions with an operand, and the width of the first. -/
theorem exec_operandAction {s : State} {p : PortId} {ch : ChanId} {i : Instr} {k : Byte} {n : Nat}
    (h : (i, k, n) ∈
      [(Instr.actionSetDeviceId p ch, s.params.codes.setDeviceId, 1),
        (.actionSelectLap p ch, s.params.codes.selectLap, 1), (.actionSetChannel p ch, s.params.codes.setChannel, 2),
        (.actionSetRssiThreshold p ch, s.params.codes.setRssiThreshold, 2),
        (.actionSetRssiFilter p ch, s.params.codes.setRssiFilter, 2),
        (.actionSetLapMinTime p ch, s.params.codes.setLapMinTime, 2),
        (.actionSetLapMax p ch, s.params.codes.setLapMax, 1), (.actionSetDebug p ch, s.params.codes.setDebug, 1)]) :
    ∃ (code : Codes → Byte) (ns : List Nat) (effect : List Byte → State → State), k = code s.params.codes ∧
      exec i s = action s p ch code (n :: ns) effect := by
  simp only [List.mem_cons, Prod.mk.injEq, List.not_mem_nil, or_false] at h
  obtain ⟨rfl, rfl, rfl⟩ | ⟨rfl, rfl, rfl⟩ | ⟨rfl, rfl, rfl⟩ | ⟨rfl, rfl, rfl⟩ | ⟨rfl, rfl, rfl⟩ | ⟨rfl, rfl, rfl⟩ |
    ⟨rfl, rfl, rfl⟩ | ⟨rfl, rfl, rfl⟩ := h
  · exact ⟨Codes.setDeviceId, _, _, rfl, (rfl : execActionSetDeviceId p ch s = _)⟩
  · exact ⟨Codes.selectLap, _, _, rfl, (rfl : execActionSelectLap p ch s = _)⟩
  · exact ⟨Codes.setChannel, _, _, rfl, (rfl : execActionSetChannel p ch s = _)⟩
  · exact ⟨Codes.setRssiThreshold, _, _, rfl, (rfl : execActionSetRssiThreshold p ch s = _)⟩
  · exact ⟨Codes.setRssiFilter, _, _, rfl, (rfl : execActionSetRssiFilter p ch s = _)⟩
  · exact ⟨Codes.setLapMinTime, _, _, rfl, (rfl : execActionSetLapMinTime p ch s = _)⟩
  · exact ⟨Codes.setLapMax, _, _, rfl, (rfl : execActionSetLapMax p ch s = _)⟩
  · exact ⟨Codes.setDebug, _, _, rfl, (rfl : execActionSetDebug p ch s = _)⟩

/-- With Q readable and R not, the read of Q has moved the cursor (R240, R262). -/
theorem exec_actionSetRssiFilter_halfRead {s : State} {p : PortId} {ch : ChanId} {q : Port} {a b : Byte}
    (h : s.Serves p ch q s.params.codes.setRssiFilter) (hop : q.Operand [a, b])
    (hshort : q.len.toNat < q.rd.toNat + 4) :
    exec (.actionSetRssiFilter p ch) s =
      .next (shortAction (s.putPort p { q with rd := q.rd + 2 }) ch .readPastEnd q.cmd) := by
  obtain ⟨hheld, hch, hcode⟩ := h
  have hread : hostRead q 2 = .got [a, b] { q with rd := q.rd + 2 } := hostRead_got hheld.2 hop.1 hop.2
  have hcursor : (q.rd + 2).toNat = q.rd.toNat + 2 := cursor_add_toNat (n := 2) hop.2.1
  have hread' : hostRead { q with rd := q.rd + 2 } 2 = .refused .readPastEnd { q with rd := q.rd + 2 } :=
    hostRead_pastEnd hheld.2 (by simp only [hcursor]; omega)
  have hreads : hostReads q [2, 2] = .refused .readPastEnd { q with rd := q.rd + 2 } := by
    simp only [hostReads, hread, hread']
  simp only [exec, execActionSetRssiFilter, action]
  rw [onCommand_held hheld hch (g := fun k c => c == k.setRssiFilter) (by simp [hcode]), hreads]

/-- Settles O52: the refused read's port is the one the reads before it left, and SHORT_ACTION has two answers. -/
theorem shortActionHasNoEffect : Obligations.ShortActionHasNoEffect := by
  refine fun s p ch q => ⟨fun i k n hmem h hshort => ?_, fun a b h hop hshort => ?_⟩
  · obtain ⟨code, ns, effect, rfl, hexec⟩ := exec_operandAction hmem
    obtain ⟨-, -, hcode⟩ := id h
    rw [hexec, action_short h ns hshort, hcode]
    exact ⟨fun hparam => congrArg _ (shortAction_noReply hparam ..),
      fun hparam => congrArg _ (shortAction_errorReply hparam ..)⟩
  · rw [exec_actionSetRssiFilter_halfRead h hop hshort]
    exact ⟨fun hparam => congrArg _ (shortAction_noReply (s := s.putPort p _) hparam ..),
      fun hparam => congrArg _ (shortAction_errorReply (s := s.putPort p _) hparam ..)⟩

end Sys2Proof.Machine

namespace Sys2Proof.Machine

/-! ### One hop of the enumeration handshake (43_relay_mux, section 4) -/

/-- The bytes of a stream, presented one after the other, leave the port as `rxFeed` says. -/
theorem steps_bytes {s : State} {p : PortId} {q q' : Port} {bs : List Byte} {es : List Event}
    (hq : s.ports[p]? = some q) (hfeed : rxFeed q bs = .ok (q', es)) (rest : List Input) (n : Nat) :
    ∃ o, steps (bs.length + n) { s with pending := bs.map (.byte p) ++ rest } =
      steps n { s with ports := s.ports.set p q', pending := rest, out := o } := by
  induction bs generalizing s q es with
  | nil =>
    cases hfeed
    have hself : s.ports.set p q' = s.ports := congrArg State.ports (putPort_self hq)
    exact ⟨s.out, by rw [hself, List.length_nil, Nat.zero_add]; rfl⟩
  | cons b bs ih =>
    obtain ⟨q₁, e, es', hrow, hfeed', rfl⟩ := rxFeed_cons_inv hfeed
    have hstep := hrow.step_eq (s := { s with pending := .byte p b :: (bs.map (.byte p) ++ rest) }) hq rfl
    have hq₁ : (s.ports.set p q₁)[p]? = some q₁ := List.getElem?_set_self (lt_of_getElem?_eq_some hq)
    obtain ⟨o, hsteps⟩ := ih (s := { s with ports := s.ports.set p q₁, out := .event p e }) hq₁ hfeed'
    refine ⟨o, ?_⟩
    rw [List.length_cons, Nat.add_right_comm]
    refine ((steps_succ _ hstep).trans hsteps).trans ?_
    simp only [List.set_set]

section
variable {s : State} {p : PortId} {q : Port} {rest : List Input} (hheld : s.Holds p q)
include hheld

/-- A dispatched enumeration frame sets the local id and is answered under the new one (R258). -/
theorem step_dispatch_setDeviceId {ch : ChanId} {w : Byte} (hpend : s.pending = .dispatch p ch :: rest)
    (hcodes : (s.params.codes.queries ++ s.params.codes.actions).Nodup) (hch : ch < s.tx.length)
    (hcmd : q.cmd = s.params.codes.setDeviceId) (hop : q.Operand [w]) (hzero : s.params.setIdZero = .apply) :
    ∃ t, step s = .next t ∧ t.Holds p { q with rd := q.rd + 1 } ∧ t.pending = rest ∧ t.params = s.params ∧
      t.localId = w ∧ t.tx = s.tx.modify ch (· ++ serialize 0x3E w q.cmd []) := by
  have hdecode : decode s.env (.dispatch p ch) = .ok (.actionSetDeviceId p ch) := by
    rw [decode_dispatch hheld.1 hch, hcmd]
    exact congrArg _ (Laws.RoundTrip.decodeCommand_action hcodes (by simp [actionTable]) p ch)
  have hexec := setDeviceIdAppliesBeforeReplying { s with pending := rest } p ch q w w ⟨hheld, hch, hcmd⟩ hop
    (by simp [hzero])
  have hnext := List.getElem?_set_self (a := { q with rd := q.rd + 1 }) (lt_of_getElem?_eq_some hheld.1)
  exact ⟨_, (step_of_decode hpend hdecode).trans hexec, ⟨hnext, hheld.2⟩, rfl, rfl, rfl, rfl⟩

/-- A relayed enumeration frame carries the local id plus one (R211). -/
theorem step_relay_enumFrame {rc : ChanId} (hpend : s.pending = .request { op := .relay, port := p, chan := rc } :: rest)
    (hrc : rc < s.tx.length) (hdir : q.dir = 0x3C) (hcmd : q.cmd = s.params.codes.setDeviceId) :
    ∃ t, step s = .next t ∧ t.Holds p q ∧ t.pending = rest ∧ t.localId = s.localId ∧
      t.tx = s.tx.modify rc (· ++ enumFrame s.params.codes q.targetId (s.localId + 1)) := by
  have hp := lt_of_getElem?_eq_some hheld.1
  have hdecode : decode s.env (.request { op := .relay, port := p, chan := rc }) = .ok (.relay p rc) :=
    Laws.RoundTrip.request rfl (fun _ => by simpa using hp) fun _ => by simpa using hrc
  have harm := exec_relay_held (s := { s with pending := rest }) hheld hrc
  rw [if_pos (isEnumFrame_iff.mpr ⟨hdir, hcmd⟩), relayRewriteArm, Port.rewriteBytes, hdir, hcmd] at harm
  exact ⟨_, (step_of_decode hpend hdecode).trans harm, hheld, rfl, rfl, rfl⟩

theorem step_release (hpend : s.pending = .request { op := .portRelease, port := p } :: rest) :
    ∃ t, step s = .next t ∧ t.localId = s.localId ∧ t.tx = s.tx := by
  have hp := lt_of_getElem?_eq_some hheld.1
  have hdecode : decode s.env (.request { op := .portRelease, port := p }) = .ok (.portRelease p) :=
    Laws.RoundTrip.request rfl (fun _ => by simpa using hp) nofun
  have hexec := exec_portRelease (s := { s with pending := rest }) hheld
  exact ⟨_, (step_of_decode hpend hdecode).trans hexec, rfl, rfl⟩

/-- Dispatch, relay and release of a held enumeration frame. -/
theorem steps_enumFrame {ch rc : ChanId} {w : Byte}
    (hpend : s.pending = [.dispatch p ch, .request { op := .relay, port := p, chan := rc },
      .request { op := .portRelease, port := p }])
    (hcodes : (s.params.codes.queries ++ s.params.codes.actions).Nodup) (hzero : s.params.setIdZero = .apply)
    (hch : ch < s.tx.length) (hrc : rc < s.tx.length) (hdir : q.dir = 0x3C)
    (hcmd : q.cmd = s.params.codes.setDeviceId) (hop : q.Operand [w]) :
    ∃ t, steps 3 s = .next t ∧ t.localId = w ∧
      t.tx = (s.tx.modify ch (· ++ serialize 0x3E w q.cmd [])).modify rc
        (· ++ enumFrame s.params.codes q.targetId (w + 1)) := by
  obtain ⟨s₁, hstep₁, hheld₁, hpend₁, hparams₁, hid₁, htx₁⟩ :=
    step_dispatch_setDeviceId hheld hpend hcodes hch hcmd hop hzero
  have hrc₁ : rc < s₁.tx.length := by rwa [htx₁, List.length_modify]
  obtain ⟨s₂, hstep₂, hheld₂, hpend₂, hid₂, htx₂⟩ :=
    step_relay_enumFrame hheld₁ hpend₁ hrc₁ hdir (hparams₁ ▸ hcmd)
  obtain ⟨t, hstep₃, hid₃, htx₃⟩ := step_release hheld₂ hpend₂
  refine ⟨t, ?_, by rw [hid₃, hid₂, hid₁], by rw [htx₃, htx₂, htx₁, hid₁, hparams₁]⟩
  rw [steps_succ 2 hstep₁, steps_two hstep₂ hstep₃]

end

/-- One hop: the device takes the payload as its id, answers under it, and relays the id plus one. -/
theorem hop_enumFrame {s : State} {p : PortId} {ch rc : ChanId} {q : Port} (w : Byte) (hinv : s.Inv)
    (hzero : s.params.setIdZero = .apply) (hch : ch < s.tx.length) (hrc : rc < s.tx.length)
    (hq : s.ports[p]? = some q) (hs : q.state = .idle) :
    ∃ t, hop p ch rc (enumFrame s.params.codes 0 w) s = .next t ∧ t.localId = w ∧
      t.tx = (s.tx.modify ch (· ++ serialize 0x3E w s.params.codes.setDeviceId [])).modify rc
        (· ++ enumFrame s.params.codes 0 (w + 1)) := by
  obtain ⟨-, -, -, ⟨-, -, hcodes, -⟩, -⟩ := hinv
  have hp := lt_of_getElem?_eq_some hq
  have hone : [w].length ≤ 64 := by simp
  have hfeed := rxFeed_serialize 0 s.params.codes.setDeviceId hs (.inl rfl) hone
  have hop : (q.receiveBody 0x3C 0 s.params.codes.setDeviceId [w]).complete.Operand [w] :=
    ⟨by simp, (carries_receiveBody q _ 0 _ hone).2⟩
  obtain ⟨o, hbytes⟩ := steps_bytes hq hfeed
    [.dispatch p ch, .request { op := .relay, port := p, chan := rc }, .request { op := .portRelease, port := p }] 3
  obtain ⟨t, hsteps, hid, htx⟩ := steps_enumFrame (s := { s with ports := _, pending := _, out := o })
    ⟨List.getElem?_set_self hp, rfl⟩ rfl hcodes hzero hch hrc rfl rfl hop
  exact ⟨t, hbytes.trans hsteps, hid, htx⟩

/-- What a hop has put on the relay's channel: the reply where the channel is shared, then the relayed frame. -/
theorem getElem?_modify_modify {tx : List (List Byte)} {ch rc : ChanId} {bs : List Byte} (hbs : tx[rc]? = some bs)
    (reply frame : List Byte) :
    ((tx.modify ch (· ++ reply)).modify rc (· ++ frame))[rc]? =
      some (bs ++ ((if ch = rc then reply else []) ++ frame)) := by
  by_cases hch : ch = rc <;> simp [hch, hbs]

/-- Settles O39: along the chain, by induction: what a hop relays is the next enumeration frame, and no other suffix of
the stream has its length. -/
theorem enumerationChainLaw : Obligations.EnumerationChainLaw := by
  intro ds ts frames p ch rc k v hds hfirst hhop hchain
  have hrelay : ∀ n w, frames n = enumFrame k 0 w → (ts n).localId = w ∧ ∀ bs, (ds n).tx[rc]? = some bs →
      (ts n).tx[rc]? =
        some (bs ++ ((if ch = rc then serialize 0x3E w k.setDeviceId [] else []) ++ enumFrame k 0 (w + 1))) := by
    intro n w hframe
    obtain ⟨hinv, rfl, hzero, hch, hrc, q, hq, hs⟩ := hds n
    obtain ⟨t, ht, hid, htx⟩ := hop_enumFrame w hinv hzero hch hrc hq hs
    cases (hframe ▸ hhop n).symm.trans ht
    refine ⟨hid, fun bs hbs => ?_⟩
    rw [htx]
    exact getElem?_modify_modify hbs _ _
  have hnext : ∀ n w, frames n = enumFrame k 0 w → frames (n + 1) = enumFrame k 0 (w + 1) := by
    intro n w hframe
    obtain ⟨-, -, -, -, hrc, -⟩ := hds n
    obtain ⟨bs, hbs⟩ : ∃ bs, (ds n).tx[rc]? = some bs := ⟨_, List.getElem?_eq_getElem hrc⟩
    obtain ⟨reply, hreply, htx⟩ := hchain n bs hbs
    have hsame := Option.some.inj (htx.symm.trans ((hrelay n w hframe).2 bs hbs))
    have hlen : reply.length = (if ch = rc then serialize 0x3E w k.setDeviceId [] else []).length := by
      rw [hreply]
      split <;> rfl
    exact (List.append_inj (List.append_cancel_left hsame) hlen).2
  have hframes : ∀ n, frames n = enumFrame k 0 (v + BitVec.ofNat 8 n) := by
    intro n
    induction n with
    | zero => simpa using hfirst
    | succ n ih =>
      rw [hnext n _ ih, BitVec.ofNat_add, ← BitVec.add_assoc]
      rfl
  intro n
  obtain ⟨hid, htx⟩ := hrelay n _ (hframes n)
  refine ⟨hid, hframes n, fun hch bs hbs => ?_⟩
  rw [htx bs hbs, hnext n _ (hframes n), if_pos hch]

end Sys2Proof.Machine
